-- ==== Sys2Proof/Word.lean ====
section
/-! DEFINITION. Bytes of the turbine link and the fixed-size tables of the part. -/

namespace Sys2Proof

/-- One byte of a link frame (11_frame_formats_and_physical_summary.md). -/
abbrev Byte := BitVec 8

/-- A set of notice classes, bit c standing for class code c (R215). -/
abbrev ClassSet := BitVec 16

/-- A table of `n` entries given entry by entry. -/
def tabulate {α : Type} (n : Nat) (f : Fin n → α) : Vector α n :=
  ⟨⟨(List.finRange n).map f⟩, by simp⟩

/-- The table `v` with entry `i` changed by `f`; every other entry stands. -/
def upd {α : Type} {n : Nat} (v : Vector α n) (i : Fin n) (f : α → α) : Vector α n :=
  v.set i.1 (f v[i]) i.2

end Sys2Proof
end

