-- ==== Sys2Proof/Syntax.lean ====
section
/-! DEFINITION. The commands of the part: one constructor per row of spec/opcode_table.json. -/

namespace Sys2Proof

/-- The two link ports (R184): the field port faces the turbines, the station port the recorder. -/
inductive Port where
  | field
  | station
deriving DecidableEq, Repr

/-- A management request as R197 and R213 carry it, less its request code: the source node of its
MGMT_REQ frame, the request tag, and the argument bytes that follow the tag. -/
structure Request where
  source : BitVec 6
  tag : BitVec 16
  args : List Byte
deriving DecidableEq, Repr

/-- The commands, in the order of the table. A request's operand is the whole request, so that a
request whose payload length does not suit its code (R198, R214) is a form of its command. -/
inductive Instr where
  /-- POWER_ON: release of the reset input with the six straps at these levels, first strap least significant (R216). -/
  | powerOn (straps : BitVec 6)
  /-- RESET_INPUT_HELD_LOW: the reset input goes low (R216). -/
  | resetInputHeldLow
  /-- FRAME_RECEPTION: the reception of these bytes completes on a port (R184). -/
  | frameReception (port : Port) (bytes : List Byte)
  /-- FORWARDED_FRAME_COMPLETION: the forwarded frame in transmission on a port completes (R187). -/
  | forwardedFrameCompletion (port : Port)
  /-- NOTICE_FRAME_COMPLETION: the NOTICE frame in transmission completes (R176). -/
  | noticeFrameCompletion
  /-- ADVISORY_FRAME_COMPLETION: the ADVISORY frame in transmission completes (R15). -/
  | advisoryFrameCompletion
  /-- MGMT_REPLY_COMPLETION: the MGMT_REPLY frame in transmission completes (R197). -/
  | mgmtReplyCompletion
  /-- FRESHNESS_TIMEOUT of a turbine (R6). -/
  | freshnessTimeout (turbine : Fin 8)
  /-- RESEND_TIMER_EXPIRY of a turbine (R16). -/
  | resendTimerExpiry (turbine : Fin 8)
  /-- CHANNEL_IDLE_TIMER_EXPIRY of a channel (R31). -/
  | channelIdleTimerExpiry (channel : Fin 24)
  /-- GRID_IDLE_TIMER_EXPIRY of a point (R111). -/
  | gridIdleTimerExpiry (point : Fin 2)
  /-- HOLDOVER_TIMER_EXPIRY (R193). -/
  | holdoverTimerExpiry
  /-- MINUTE_EVENT (R137). -/
  | minuteEvent
  /-- MS_OF_DAY_WRAP (R191). -/
  | msOfDayWrap
  /-- UNKNOWN_REQUEST_CODE: a request whose code names no request (R198). -/
  | unknownRequestCode (code : Byte) (rq : Request)
  | identify (rq : Request)
  | stageEntries (rq : Request)
  | readStaged (rq : Request)
  | readCurrent (rq : Request)
  | discardStaged (rq : Request)
  | apply (rq : Request)
  | suspend (rq : Request)
  | resume (rq : Request)
  | readStatus (rq : Request)
  | readResults (rq : Request)
  | fetchNotices (rq : Request)
  | setDeliveryMode (rq : Request)
  | withdrawNotices (rq : Request)
  | captureChannel (rq : Request)
  | readCapture (rq : Request)
  | releaseCapture (rq : Request)
  | done (rq : Request)
  | defer (rq : Request)
  | iceOverride (rq : Request)
  | baselineReset (rq : Request)
  | restartFull (rq : Request)
  | restartProcessing (rq : Request)
deriving DecidableEq, Repr

end Sys2Proof
end

