-- ==== Sys2Proof/Decode.lean ====
section
/-! DEFINITION. The command a word of the opcode table spells: the table gives no row any bits. -/

namespace Sys2Proof

/-- The rows of spec/opcode_table.json carry no bits (their fields are empty): they are operations and events of the
part, not words. No word spells a command. -/
def decodeTableWord (_nbits _w : Nat) : Option Instr := none

end Sys2Proof
end

