-- ==== Sys2Proof/Config.lean ====
section
/-! DEFINITION. What one Bergic 2408 fixes: its timeouts and sizes, and the one value the manual leaves free. -/

namespace Sys2Proof.Config

/-- Freshness timeout in ms (R6). -/
def freshMs : Nat := 5000
/-- Advisory re-send period in ms (R15). -/
def resendMs : Nat := 10000
/-- Idle timeout of a channel in ms (R31). -/
def channelIdleMs : Nat := 2000
/-- Idle timeout of a grid point in ms (R108). -/
def gridIdleMs : Nat := 2000
/-- Holdover timeout in ms (R193). -/
def holdoverMs : Nat := 3000
/-- Period of minute events in ms (R137). -/
def minuteMs : Nat := 60000
/-- Milliseconds of a day (R191). -/
def dayMs : Nat := 86400000
/-- The last value of the free-running ms counter (R194). -/
def counterEnd : Nat := 2 ^ 48 - 1
/-- Samples a channel's ring holds (R33). -/
def ringSize : Nat := 2048
/-- Samples a slot takes after its trigger (R161). -/
def postSize : Nat := 2048
/-- Frames a forward buffer holds (R186). -/
def forwardSize : Nat := 16
/-- Forwarded frames in succession while an own frame waits (R187). -/
def runLimit : Nat := 8
/-- Notices the queue holds (R174). -/
def noticeSize : Nat := 48
/-- Requests the management queue holds (R197). -/
def requestSize : Nat := 4
/-- The node number of a part without a node address (R190). -/
def noNode : BitVec 6 := 63

/-- What the free-running ms counter holds one millisecond after its end, which R194 does not state:
DESIGN CHOICE, a free value (log 10). -/
opaque counterAfterEnd : BitVec 48

end Sys2Proof.Config
end

