-- ==== Sys2Proof/Machine/State.lean ====
section
/-! DEFINITION. The state of the part, block by block, as plain data; its power-on values; the reasons a step can stop. -/

namespace Sys2Proof.Machine

/-! ### Tables -/

/-- What a frame matched to a Stream Table entry feeds: the role with its target (section 2.1). -/
inductive StreamFeed where
  | vibChannel (channel : Fin 24)
  | gridPoint (point : Fin 2)
  | turbineStatus (turbine : Fin 8)
  | ignore (target : Byte)
deriving DecidableEq, Repr

structure StreamEntry where
  valid : Bool
  nodeMatch : BitVec 6
  nodeMask : BitVec 6
  tagMatch : Byte
  tagMask : Byte
  feed : StreamFeed
deriving DecidableEq, Repr

/-- The running counts of a Stream Table entry (R24). -/
structure StreamCounts where
  framesTaken : Nat
  gapEvents : Nat
deriving DecidableEq, Repr

inductive Decimation where
  | d1 | a2 | a4 | s2 | s4
deriving DecidableEq, Repr

structure ChannelEntry where
  turbine : Fin 8
  decimation : Decimation
  window : Nat
  settle : Nat
  frameSamples : Nat
  gapTolerance : Nat
  bindings : Vector (Option (Fin 32)) 4
  captureOnTrigger : Bool
deriving DecidableEq, Repr

inductive BandRole where
  | measure | track
deriving DecidableEq, Repr

structure Biquad where
  bypass : Bool
  b0 : Int
  b1 : Int
  b2 : Int
  a1 : Int
  a2 : Int
deriving DecidableEq, Repr

structure Thresholds where
  t1 : Nat
  t2 : Nat
  t3 : Nat
deriving DecidableEq, Repr

structure BandEntry where
  valid : Bool
  role : BandRole
  sections : Vector Biquad 4
  clip : Nat
  floor : Nat
  normal : Thresholds
  ice : Thresholds
  iceRelaxed : Bool
  speedMin : Nat
  speedMax : Nat
  persistence : Nat
  clear : Nat
  hysteresis : Nat
  captureOnAlarm : Bool
deriving DecidableEq, Repr

structure TurbineEntry where
  valid : Bool
  gridPoint : Option (Fin 2)
  controller : BitVec 6
  advisoryEnable : Bool
  noticeMask : ClassSet
deriving DecidableEq, Repr

/-- The icing advice for a turbine (section 1.6). -/
inductive Curtail where
  | none | reduce | stop
deriving DecidableEq, Repr

/-- The iced curtail level of an Ice Table entry (section 4.1). -/
inductive IcedLevel where
  | reduce | stop
deriving DecidableEq, Repr

structure IceEntry where
  valid : Bool
  track : List (Fin 96)
  ticeMax : Int
  rhMin : Nat
  dmin16 : Nat
  nsuspect : Nat
  niced : Nat
  tthaw : Int
  nthaw : Nat
  nclear : Nat
  tlearn : Int
  rotorMin : Nat
  level : IcedLevel
  load : Vector (Option Nat) 3
deriving DecidableEq, Repr

inductive PhaseOrder where
  | abc | acb
deriving DecidableEq, Repr

structure GridEntry where
  valid : Bool
  hzc : Nat
  order : PhaseOrder
  p1min : Nat
  lthd : Nat
  /-- Limits of orders 2..31; entry k is order k + 2. -/
  limits : Vector Nat 30
  persistence : Nat
  clear : Nat
deriving DecidableEq, Repr

inductive Component where
  | gearboxHs | gearboxIms | gearboxPlanet | mainBearing | generator | blades | converter | yaw | pitch | other
deriving DecidableEq, Repr

inductive Task where
  | inspect | service | replace
deriving DecidableEq, Repr

/-- Where an entry's usage comes from, with the parameters of the source (section 6.1). -/
inductive UsageSource where
  | none
  | vib (ids : List (Fin 96)) (weights : Vector Nat 4)
  | run (weight : Nat)
  | grid (point : Fin 2) (weight : Nat)
  | ice (weight : Nat)
deriving DecidableEq, Repr

inductive MaintState where
  | disabled | idle | soon | due | overdue
deriving DecidableEq, Repr

/-- The loaded fields of a Maintenance Table entry, as staging holds them (R131). -/
structure MaintLoad where
  valid : Bool
  turbine : Fin 8
  component : Component
  task : Task
  interval : Nat
  dueDay : Nat
  lead : Nat
  usageLimit : Nat
  usage : Option Nat
  source : UsageSource
  lastDone : Option Nat
deriving DecidableEq, Repr

/-- A current Maintenance Table entry: loaded and running fields (section 6.1). -/
structure MaintItem where
  valid : Bool
  turbine : Fin 8
  component : Component
  task : Task
  interval : Nat
  dueDay : Nat
  baseDue : Nat
  lead : Nat
  usageLimit : Nat
  usage : Nat
  source : UsageSource
  lastDone : Option Nat
  deferrals : Nat
  state : MaintState
deriving DecidableEq, Repr

inductive DeliveryMode where
  | send | hold
deriving DecidableEq, Repr

structure GlobalRecord where
  mode : DeliveryMode
  dest : BitVec 6
  mask : ClassSet
  graceDays : Nat
deriving DecidableEq, Repr

/-- The seven tables that Apply replaces whole (R203); the Maintenance Table is held apart. -/
structure Tables where
  streams : Vector StreamEntry 64
  channels : Vector ChannelEntry 24
  bands : Vector BandEntry 32
  turbines : Vector TurbineEntry 8
  ice : Vector IceEntry 8
  grid : Vector GridEntry 2
  global : GlobalRecord
deriving DecidableEq, Repr

/-- The staged copy: the tables, the staged maintenance entries and their marks for load (R131, R200). -/
structure Staged where
  tables : Tables
  loads : Vector MaintLoad 96
  marks : Vector Bool 96
deriving DecidableEq, Repr

/-! ### Turbine context unit -/

inductive Freshness where
  | none | fresh | stale
deriving DecidableEq, Repr

inductive OpState where
  | stopped | idling | producing | curtailed | fault | service
deriving DecidableEq, Repr

/-- The six stored status fields (R4). -/
structure Status where
  op : OpState
  rotor : Nat
  shaft : Nat
  ambient : Int
  humidity : Nat
  power : Nat
deriving DecidableEq, Repr

/-- The advisory mechanism of a turbine (section 1.7). -/
inductive Advisory where
  | quiet
  | pending (value : Curtail) (since : Nat)
  | sending (value : Curtail)
  | sendingPending (value waiting : Curtail) (since : Nat)
  | holding (expiry : Nat)
deriving DecidableEq, Repr

structure Turbine where
  freshness : Freshness
  /-- The counter value at which the freshness timeout expires; it runs in FRESH only (R6). -/
  freshExpiry : Nat
  status : Status
  lastStatus : Nat
  curtail : Curtail
  worst : Nat
  advisory : Advisory
deriving DecidableEq, Repr

/-! ### Channel engine -/

inductive ChannelState where
  | unbound | idle | settling | running | suspended
deriving DecidableEq, Repr

/-- A channel's configuration in force: its entry and the copies of the bands it binds (section 2.6). -/
structure ChannelConfig where
  entry : ChannelEntry
  bands : Vector (Option BandEntry) 4
deriving DecidableEq, Repr

structure Channel where
  config : ChannelConfig
  gen : Nat
  state : ChannelState
  marked : Bool
  streamIdle : Bool
  expect : Option Byte
  lastInput : Option Int
  idleExpiry : Option Nat
  /-- The incomplete group: each input sample with whether it was filled (R32). -/
  group : List (Int × Bool)
  ring : List Int
  settleProgress : Nat
  windowProgress : Nat
  gapped : Bool
deriving DecidableEq, Repr

/-! ### Band engine -/

structure SectionState where
  x1 : Int
  x2 : Int
  y1 : Int
  y2 : Int
deriving DecidableEq, Repr

/-- The window fields of an open window (R8, R56). -/
structure WindowContext where
  fresh : Bool
  producing : Bool
  /-- Window speed min and max, absent together. -/
  speed : Option (Nat × Nat)
  gen : Nat
  void : Bool
deriving DecidableEq, Repr

inductive Reason where
  | noStatus | service | notRunning | offSpeed
deriving DecidableEq, Repr

inductive Verdict where
  | void
  | unevaluated (reason : Reason)
  | classed
deriving DecidableEq, Repr

inductive ThresholdSet where
  | normal | ice
deriving DecidableEq, Repr

/-- The marks of a window result (R62). -/
structure Marks where
  gapped : Bool
  clipped : Bool
  saturated : Bool
  disturbed : Bool
deriving DecidableEq, Repr

/-- The last result of an instance (R64). -/
structure InstResult where
  gen : Nat
  closeTime : Nat
  verdict : Verdict
  ms : Nat
  net : Nat
  /-- MEASURE only: class and threshold set. -/
  cls : Option (Nat × ThresholdSet)
  /-- TRACK only: the crossing count. -/
  crossings : Option Nat
  marks : Marks
  clipCount : Nat
  satCount : Nat
  speed : Option (Nat × Nat)
deriving DecidableEq, Repr

structure AlarmRecord where
  level : Nat
  raiseCount : Nat
  raiseLevel : Option Nat
  clearCount : Nat
  clearLevel : Option Nat
deriving DecidableEq, Repr

structure Inst where
  filter : Vector SectionState 4
  sumSq : Nat
  clipCount : Nat
  satCount : Nat
  crossings : Nat
  armed : Bool
  window : Option WindowContext
  lastResult : Option InstResult
  alarm : AlarmRecord
  boundSinceReset : Bool
deriving DecidableEq, Repr

/-! ### Ice monitor -/

inductive IceState where
  | noData | clear | watch | suspect | iced | thawing
deriving DecidableEq, Repr

inductive BaselineStatus where
  | none
  | learning (n : Nat)
  | valid
  | loaded
deriving DecidableEq, Repr

structure Blade where
  b16 : Nat
  status : BaselineStatus
  lastC : Option Nat
deriving DecidableEq, Repr

structure IceRecord where
  state : IceState
  evidence : Nat
  clear : Nat
  thaw : Nat
  blades : Vector Blade 3
deriving DecidableEq, Repr

/-! ### Grid analyser -/

inductive Intake where
  | unbound | idle | assembling | suspended
deriving DecidableEq, Repr

structure Detector where
  armed : Bool
  /-- Block sample indexes of the crossings, increasing (R113). -/
  list : List Nat
deriving DecidableEq, Repr

/-- The Grid Table values a block latched at its start, with its generation (R110). -/
structure Latch where
  hzc : Nat
  order : PhaseOrder
  p1min : Nat
  lthd : Nat
  limits : Vector Nat 30
  gen : Nat
deriving DecidableEq, Repr

inductive GridVerdict where
  | offSync | phaseOrder | noFundamental | evaluated
deriving DecidableEq, Repr

/-- What only an EVALUATED block's result holds (R122). -/
structure GridEvaluation where
  worstThd : Nat
  orders : List Nat
  thdExceeds : Bool
  exceeds : Bool
deriving DecidableEq, Repr

structure PhaseResult where
  p1 : Nat
  /-- THD_q of an evaluated phase. -/
  thd : Option Nat
deriving DecidableEq, Repr

/-- The last result of a grid point (R122). -/
structure GridResult where
  gen : Nat
  time : Nat
  verdict : GridVerdict
  crossings : Nat
  intervals : Option (Nat × Nat)
  phases : Vector PhaseResult 3
  evaluation : Option GridEvaluation
deriving DecidableEq, Repr

inductive GridAlarm where
  | normal | alarm
deriving DecidableEq, Repr

inductive SyncCondition where
  | none | sound | offSync | phaseOrder
deriving DecidableEq, Repr

/-- The accumulators of one phase: (Re, Im) of orders 1..31; entry k is order k + 1 (R117). -/
abbrev PhaseAcc := Vector (Int × Int) 31

structure GridPoint where
  intake : Intake
  marked : Bool
  expect : Option Byte
  idleExpiry : Option Nat
  index : Nat
  latch : Option Latch
  acc : Vector PhaseAcc 3
  detectors : Vector Detector 3
  alarm : GridAlarm
  raiseCount : Nat
  clearCount : Nat
  sync : SyncCondition
  lastResult : Option GridResult
deriving DecidableEq, Repr

/-! ### Clock, capture unit, notice queue, link, management unit -/

inductive SyncState where
  | unset | locked | holdover
deriving DecidableEq, Repr

structure Clock where
  day : Nat
  ms : Nat
  sync : SyncState
  holdoverExpiry : Option Nat
  lastTime : Option Nat
  counter : Nat
deriving DecidableEq, Repr

/-- The clock's day, ms of day and sync state as a stamp (R173). -/
structure Stamp where
  day : Nat
  ms : Nat
  sync : SyncState
deriving DecidableEq, Repr

inductive Trigger where
  | alarmRise | iced | manual
deriving DecidableEq, Repr

inductive SlotState where
  | free | filling | held
deriving DecidableEq, Repr

structure Slot where
  state : SlotState
  channel : Fin 24
  turbine : Fin 8
  trigger : Trigger
  origin : Option (Fin 96)
  stamp : Stamp
  counter : Nat
  decimation : Decimation
  gen : Nat
  pre : Nat
  post : Nat
  truncated : Bool
  samples : List Int
deriving DecidableEq, Repr

inductive NoticeClass where
  | ice | vib | gridAlarm | maint | access | capture | gridFault | link | config
deriving DecidableEq, Repr

inductive Subject where
  | nothing
  | inst (i : Fin 96)
  | point (p : Fin 2)
  | entry (e : Fin 96)
  | slot (k : Fin 2)
  | port (p : Port)
deriving DecidableEq, Repr

inductive NoticeValue where
  | absent
  | net (v : Nat)
  | thd (v : Nat)
  | usage (v : Nat)
  | crossings (v : Nat)
  | deficit (v : Int)
  | generation (v : Nat)
deriving DecidableEq, Repr

/-- What a block offers to the notice queue (section 8.2). Old and new state are the state codes of R213's table. -/
structure Offer where
  cls : NoticeClass
  priority : Nat
  turbine : Option (Fin 8)
  subject : Subject
  old : Byte
  new : Byte
  value : NoticeValue
  gen : Nat
  accessHold : Bool
  noBaseline : Bool
deriving DecidableEq, Repr

/-- A created notice: the offer with its number and its stamp (R172, R173). -/
structure Notice where
  offer : Offer
  number : Nat
  stamp : Stamp
deriving DecidableEq, Repr

structure NoticeQueue where
  /-- In queue order (R174). -/
  queue : List Notice
  next : Nat
  /-- The number of the notice in transmission (R176). -/
  sending : Option Nat
deriving DecidableEq, Repr

/-- The frame in transmission on a port: what kind of frame, with the bytes fixed when it began (R188). -/
inductive Transmission where
  | forwarded (bytes : List Byte)
  | notice (bytes : List Byte)
  | advisory (turbine : Fin 8) (bytes : List Byte)
  | reply (bytes : List Byte)
deriving DecidableEq, Repr

structure PortState where
  /-- The forward buffer of frames that leave by this port (R186). -/
  buffer : List (List Byte)
  sending : Option Transmission
  runCount : Nat
  health : Nat
deriving DecidableEq, Repr

structure Link where
  field : PortState
  station : PortState
deriving DecidableEq, Repr

inductive ReplyStatus where
  | ok | okAdjusted | busy | badTable | badIndex | badValue | readOnly | conflict | refused | notNow | malformed
deriving DecidableEq, Repr

inductive RefusalReason where
  | producing | disabled | noTime | limit | usageDue | condition | notRunning | channelBusy | noSlot | empty
deriving DecidableEq, Repr

/-- The outcome of a request: status, reason of a REFUSED, result bytes (R198, R213). -/
structure Answer where
  status : ReplyStatus
  reason : Option RefusalReason
  results : List Byte
deriving DecidableEq, Repr

/-- A request with its code, as the request queue holds it (R197). -/
structure QueuedRequest where
  code : Byte
  rq : Request
deriving DecidableEq, Repr

/-- The held reply (R197): its request, its answer and the stamp taken when the request was taken. -/
structure Reply where
  request : QueuedRequest
  answer : Answer
  stamp : Stamp
deriving DecidableEq, Repr

structure Mgmt where
  queue : List QueuedRequest
  reply : Option Reply
deriving DecidableEq, Repr

inductive AnalysisState where
  | active | suspending | suspended
deriving DecidableEq, Repr

/-- The error record (R199). -/
structure ErrorRecord where
  malformedRequest : Bool
  readOnlyWrite : Bool
  noSuchTable : Bool
  forwardOverflow : Bool
  noticeOverflow : Bool
  mgmtOverflow : Bool
  mgmtOnFieldPort : Bool
deriving DecidableEq, Repr

/-- The state of the part. -/
structure State where
  /-- The reset input is held low (R216). -/
  resetLow : Bool
  /-- The node number sampled from the straps (R190). -/
  node : BitVec 6
  link : Link
  clock : Clock
  /-- The model's own field: the counter value at which the last minute event was taken, 0 before the first, so that
  each multiple of 60,000 gives one minute event (R194; log 38). -/
  minuteTaken : Nat
  /-- The current tables (R203). -/
  tables : Tables
  /-- The current Maintenance Table (R132). -/
  items : Vector MaintItem 96
  staged : Staged
  counts : Vector StreamCounts 64
  turbines : Vector Turbine 8
  channels : Vector Channel 24
  insts : Vector Inst 96
  ice : Vector IceRecord 8
  points : Vector GridPoint 2
  scheduleDay : Option Nat
  slots : Vector Slot 2
  notices : NoticeQueue
  mgmt : Mgmt
  generation : Nat
  /-- Whether a landing lasts (R40, R203). -/
  landing : Bool
  analysis : AnalysisState
  /-- The reports of R204 held while SUSPENDING or SUSPENDED. -/
  channelReport : Bool
  gridReport : Bool
  errors : ErrorRecord
  /-- The model's own field: the commands that wait to be taken, first in first out. -/
  pending : List Instr
deriving DecidableEq, Repr

/-- The part has no fault: every command has an effect or leaves the state as it is, and what goes
wrong is reported in the error record, in reply statuses and in notices (R198, R199). -/
inductive Fault : Type
deriving DecidableEq, Repr

/-- Why a command has no meaning. -/
inductive Refusal where
  /-- Raised by `exec` alone, for a row of the table that has no meaning yet. Safe: the run stops. -/
  | notModelled (mnemonic : String)
deriving DecidableEq, Repr

/-! ### Power-on values -/

/-- R44: a Stream Table entry at power-on. -/
def StreamEntry.init : StreamEntry :=
  { valid := false, nodeMatch := 0, nodeMask := 0, tagMatch := 0, tagMask := 0, feed := .ignore 0 }

/-- R44: a Channel Table entry at power-on. -/
def ChannelEntry.init : ChannelEntry :=
  { turbine := 0, decimation := .d1, window := 256, settle := 0, frameSamples := 1, gapTolerance := 0,
    bindings := Vector.replicate 4 none, captureOnTrigger := false }

/-- R77: a filter section at power-on. -/
def Biquad.init : Biquad := { bypass := true, b0 := 0, b1 := 0, b2 := 0, a1 := 0, a2 := 0 }

/-- R77: a Band Table entry at power-on. -/
def BandEntry.init : BandEntry :=
  { valid := false, role := .measure, sections := Vector.replicate 4 Biquad.init, clip := 32767, floor := 0,
    normal := ⟨0, 0, 0⟩, ice := ⟨0, 0, 0⟩, iceRelaxed := false, speedMin := 0, speedMax := 30000,
    persistence := 1, clear := 1, hysteresis := 0, captureOnAlarm := false }

/-- R19: a Turbine Table entry at power-on. -/
def TurbineEntry.init : TurbineEntry :=
  { valid := false, gridPoint := none, controller := 0, advisoryEnable := false, noticeMask := 0 }

/-- R103: an Ice Table entry at power-on. -/
def IceEntry.init : IceEntry :=
  { valid := false, track := [0], ticeMax := 0, rhMin := 100, dmin16 := 1, nsuspect := 1, niced := 1, tthaw := 0,
    nthaw := 1, nclear := 1, tlearn := 0, rotorMin := 0, level := .reduce, load := Vector.replicate 3 none }

/-- R129: a Grid Table entry at power-on. -/
def GridEntry.init : GridEntry :=
  { valid := false, hzc := 0, order := .abc, p1min := 0, lthd := 0, limits := Vector.replicate 30 0,
    persistence := 1, clear := 1 }

/-- R155: a staged Maintenance Table entry at power-on. -/
def MaintLoad.init : MaintLoad :=
  { valid := false, turbine := 0, component := .other, task := .inspect, interval := 1, dueDay := 0, lead := 0,
    usageLimit := 0, usage := some 0, source := .none, lastDone := none }

/-- R155: a current Maintenance Table entry at power-on. -/
def MaintItem.init : MaintItem :=
  { valid := false, turbine := 0, component := .other, task := .inspect, interval := 1, dueDay := 0, baseDue := 0,
    lead := 0, usageLimit := 0, usage := 0, source := .none, lastDone := none, deferrals := 0, state := .disabled }

/-- R182: the global record at power-on. -/
def GlobalRecord.init : GlobalRecord := { mode := .send, dest := 63, mask := 0, graceDays := 0 }

def Tables.init : Tables :=
  { streams := Vector.replicate 64 StreamEntry.init, channels := Vector.replicate 24 ChannelEntry.init,
    bands := Vector.replicate 32 BandEntry.init, turbines := Vector.replicate 8 TurbineEntry.init,
    ice := Vector.replicate 8 IceEntry.init, grid := Vector.replicate 2 GridEntry.init, global := GlobalRecord.init }

/-- R208: staging at power-on equals the current copy, with no mark for load. -/
def Staged.init : Staged :=
  { tables := Tables.init, loads := Vector.replicate 96 MaintLoad.init, marks := Vector.replicate 96 false }

/-- R19: the six status fields at power-on. -/
def Status.init : Status := { op := .stopped, rotor := 0, shaft := 0, ambient := 0, humidity := 0, power := 0 }

/-- R19: a turbine context at power-on. -/
def Turbine.init : Turbine :=
  { freshness := .none, freshExpiry := 0, status := Status.init, lastStatus := 0, curtail := .none, worst := 0,
    advisory := .quiet }

/-- R44: a channel at power-on. -/
def Channel.init : Channel :=
  { config := { entry := ChannelEntry.init, bands := Vector.replicate 4 none }, gen := 0, state := .unbound,
    marked := false, streamIdle := false, expect := none, lastInput := none, idleExpiry := none, group := [],
    ring := [], settleProgress := 0, windowProgress := 0, gapped := false }

def SectionState.init : SectionState := { x1 := 0, x2 := 0, y1 := 0, y2 := 0 }

/-- R77: an alarm record at level 0 with empty runs. -/
def AlarmRecord.init : AlarmRecord :=
  { level := 0, raiseCount := 0, raiseLevel := none, clearCount := 0, clearLevel := none }

/-- R77: a band instance at power-on. -/
def Inst.init : Inst :=
  { filter := Vector.replicate 4 SectionState.init, sumSq := 0, clipCount := 0, satCount := 0, crossings := 0,
    armed := false, window := none, lastResult := none, alarm := AlarmRecord.init, boundSinceReset := false }

def Blade.init : Blade := { b16 := 0, status := .none, lastC := none }

/-- R103: an ice record at power-on. -/
def IceRecord.init : IceRecord :=
  { state := .noData, evidence := 0, clear := 0, thaw := 0, blades := Vector.replicate 3 Blade.init }

def Detector.init : Detector := { armed := false, list := [] }

/-- Accumulators at 0 (R117). -/
def zeroAcc : Vector PhaseAcc 3 := Vector.replicate 3 (Vector.replicate 31 (0, 0))

/-- R129: a grid point at power-on. -/
def GridPoint.init : GridPoint :=
  { intake := .unbound, marked := false, expect := none, idleExpiry := none, index := 0, latch := none,
    acc := zeroAcc, detectors := Vector.replicate 3 Detector.init, alarm := .normal, raiseCount := 0,
    clearCount := 0, sync := .none, lastResult := none }

/-- R196: the clock at power-on. -/
def Clock.init : Clock :=
  { day := 0, ms := 0, sync := .unset, holdoverExpiry := none, lastTime := none, counter := 0 }

/-- R168: a slot at power-on. In FREE only the state has a meaning; the other fields stand at zeros
(DESIGN CHOICE, log 26). -/
def Slot.init : Slot :=
  { state := .free, channel := 0, turbine := 0, trigger := .manual, origin := none, stamp := ⟨0, 0, .unset⟩,
    counter := 0, decimation := .d1, gen := 0, pre := 0, post := 0, truncated := false, samples := [] }

/-- R182: the notice queue at power-on. -/
def NoticeQueue.init : NoticeQueue := { queue := [], next := 0, sending := none }

/-- R196: a port at power-on. -/
def PortState.init : PortState := { buffer := [], sending := none, runCount := 0, health := 0 }

def Link.init : Link := { field := PortState.init, station := PortState.init }

def Mgmt.init : Mgmt := { queue := [], reply := none }

/-- R199, R208: the error record is clear. -/
def ErrorRecord.init : ErrorRecord := ⟨false, false, false, false, false, false, false⟩

/-- The state right after the release of the reset input with the straps at these levels (R216), every
block at its power-on values (R19, R44, R77, R103, R129, R155, R168, R182, R196, R208). -/
def State.powerOn (straps : BitVec 6) : State :=
  { resetLow := false, node := straps, link := Link.init, clock := Clock.init, minuteTaken := 0, tables := Tables.init,
    items := Vector.replicate 96 MaintItem.init, staged := Staged.init,
    counts := Vector.replicate 64 ⟨0, 0⟩, turbines := Vector.replicate 8 Turbine.init,
    channels := Vector.replicate 24 Channel.init, insts := Vector.replicate 96 Inst.init,
    ice := Vector.replicate 8 IceRecord.init, points := Vector.replicate 2 GridPoint.init, scheduleDay := none,
    slots := Vector.replicate 2 Slot.init, notices := NoticeQueue.init, mgmt := Mgmt.init, generation := 0,
    landing := false, analysis := .active, channelReport := false, gridReport := false,
    errors := ErrorRecord.init, pending := [] }

/-- The machine right after reset: power-on with all straps low. The spec gives the node number no
value of its own at reset, it is whatever the straps carry: DESIGN CHOICE 0 (log 7). -/
def State.reset : State := State.powerOn 0

end Sys2Proof.Machine
end

