-- ==== Sys2Proof/Machine/Operands.lean ====
section
/-! DEFINITION. How values stand in bytes (R215), how a frame stands on the link (R211), the codes of the
listed choices (R213, R215), and arithmetic terms of 00_scope.md. -/

namespace Sys2Proof.Machine

/-! ### Arithmetic terms -/

/-- Saturate (or clamp) to a range (00_scope.md, Arithmetic). -/
def clampInt (lo hi v : Int) : Int := if v < lo then lo else if hi < v then hi else v

/-- Clamp a number to `lo..hi`. -/
def clampNat (lo hi v : Nat) : Nat := max lo (min hi v)

/-- Digit `k` and those below of `isqrt`: `r` is the root's part found so far. -/
def isqrtFrom (v : Nat) : Nat → Nat → Nat
  | 0, r => r
  | k + 1, r => isqrtFrom v k (if (r + 2 ^ k) ^ 2 ≤ v then r + 2 ^ k else r)

/-- isqrt(v): the greatest integer whose square does not exceed `v`, for `v` below 2^128 (00_scope.md). -/
def isqrt (v : Nat) : Nat := isqrtFrom v 64 0

/-! ### Numbers in bytes, most significant byte first (section 11.1) -/

def u8 (n : Nat) : List Byte := [BitVec.ofNat 8 n]
def u16 (n : Nat) : List Byte := u8 (n / 256) ++ u8 n
def u32 (n : Nat) : List Byte := u16 (n / 65536) ++ u16 n
def u48 (n : Nat) : List Byte := u16 (n / 4294967296) ++ u32 n

/-- A signed value in two bytes, two's complement. -/
def i16 (v : Int) : List Byte := u16 (v % 65536).toNat
/-- A signed value in four bytes, two's complement. -/
def i32 (v : Int) : List Byte := u32 (v % 4294967296).toNat

/-- Yes or no: one byte, 0 or 1 (R215). -/
def yesNo (b : Bool) : List Byte := u8 (if b then 1 else 0)

/-- An item that may be absent, of `size` bytes: a presence byte, then the item, carried as 0 when
absent (R215; the zeros of an absent item: DEDUCED, log 11). -/
def optional {α : Type} (size : Nat) (enc : α → List Byte) : Option α → List Byte
  | none => u8 0 ++ List.replicate size 0
  | some a => u8 1 ++ enc a

/-- A one-byte index that may be none: FFh for none (R215). -/
def indexOrNone : Option Nat → List Byte
  | none => u8 255
  | some n => u8 n

/-- A list of up to `m` one-byte items: a count byte, then `m` slots, those after the count 0 (R215). -/
def byteList (m : Nat) (l : List Nat) : List Byte :=
  u8 l.length ++ (l.take m).flatMap u8 ++ List.replicate (m - l.length) 0

def at8 (bs : List Byte) (k : Nat) : Nat := (bs.getD k 0).toNat
def at16 (bs : List Byte) (k : Nat) : Nat := at8 bs k * 256 + at8 bs (k + 1)
def at32 (bs : List Byte) (k : Nat) : Nat := at16 bs k * 65536 + at16 bs (k + 2)
def at48 (bs : List Byte) (k : Nat) : Nat := at16 bs k * 4294967296 + at32 bs (k + 2)

/-- A signed two-byte field. -/
def sat16 (bs : List Byte) (k : Nat) : Int :=
  if at16 bs k < 32768 then (at16 bs k : Int) else (at16 bs k : Int) - 65536

/-- The signed 16-bit values of a run of bytes, two bytes each. -/
def samplesOf : List Byte → List Int
  | h :: l :: rest => sat16 [h, l] 0 :: samplesOf rest
  | _ => []

/-! ### Frames (R184, R211) -/

/-- One bit through the CRC register, generator 1021h, most significant bit first. -/
def crcBit (r : BitVec 16) : BitVec 16 := if r.msb then (r <<< 1) ^^^ 0x1021#16 else r <<< 1

def crcBits : Nat → BitVec 16 → BitVec 16
  | 0, r => r
  | k + 1, r => crcBits k (crcBit r)

/-- One byte through the CRC register. -/
def crcByte (r : BitVec 16) (b : Byte) : BitVec 16 := crcBits 8 (r ^^^ (b.zeroExtend 16 <<< 8))

/-- The CRC of section 11.1: register from FFFFh, no reflection, no final inversion (R211). -/
def crc16 (bs : List Byte) : BitVec 16 := bs.foldl crcByte 0xFFFF#16

/-- The CRC as sent, high byte first. -/
def crcBytes (bs : List Byte) : List Byte := u16 (crc16 bs).toNat

inductive FrameKind where
  | sample | grid | status | time | notice | advisory | mgmtReq | mgmtReply
deriving DecidableEq, Repr

/-- The kind codes of section 11.1. -/
def FrameKind.code : FrameKind → Nat
  | .sample => 0x01 | .grid => 0x02 | .status => 0x03 | .time => 0x10
  | .notice => 0x20 | .advisory => 0x21 | .mgmtReq => 0x30 | .mgmtReply => 0x31

/-- The kind a code names; a code of no kind names none and its frame is only forwarded (R184). -/
def FrameKind.ofCode (n : Nat) : Option FrameKind :=
  if n = 0x01 then some .sample else if n = 0x02 then some .grid else if n = 0x03 then some .status
  else if n = 0x10 then some .time else if n = 0x20 then some .notice else if n = 0x21 then some .advisory
  else if n = 0x30 then some .mgmtReq else if n = 0x31 then some .mgmtReply else none

/-- What the part reads of a good frame; the upper two bits of the node bytes are not read (R211). -/
structure Frame where
  dest : BitVec 6
  source : BitVec 6
  kind : Option FrameKind
  tag : Byte
  payload : List Byte
deriving DecidableEq, Repr

/-- The checks of R184: minimum size, length, CRC. -/
def frameGood (bs : List Byte) : Bool :=
  decide (8 ≤ bs.length) && decide (bs.length = 8 + at16 bs 4) &&
    decide (bs.drop (bs.length - 2) = crcBytes (bs.take (bs.length - 2)))

/-- The fields of a good frame (section 11.1). -/
def parseFrame (bs : List Byte) : Frame :=
  { dest := BitVec.ofNat 6 (at8 bs 0), source := BitVec.ofNat 6 (at8 bs 1),
    kind := FrameKind.ofCode (at8 bs 2), tag := BitVec.ofNat 8 (at8 bs 3),
    payload := (bs.drop 6).take (bs.length - 8) }

/-- A frame the part begins: header with stream tag 0, payload and CRC (R211). -/
def ownFrame (dest source : BitVec 6) (kind : FrameKind) (payload : List Byte) : List Byte :=
  let body := u8 dest.toNat ++ u8 source.toNat ++ u8 kind.code ++ u8 0 ++ u16 payload.length ++ payload
  body ++ crcBytes body

/-! ### Codes of listed choices: the position in the list, from 0 (R215), or the codes of section 11.3 -/

def Decimation.all : List Decimation := [.d1, .a2, .a4, .s2, .s4]
def Decimation.code : Decimation → Nat
  | .d1 => 0 | .a2 => 1 | .a4 => 2 | .s2 => 3 | .s4 => 4

def BandRole.all : List BandRole := [.measure, .track]
def BandRole.code : BandRole → Nat
  | .measure => 0 | .track => 1

def IcedLevel.all : List IcedLevel := [.reduce, .stop]
def IcedLevel.code : IcedLevel → Nat
  | .reduce => 0 | .stop => 1

def PhaseOrder.all : List PhaseOrder := [.abc, .acb]
def PhaseOrder.code : PhaseOrder → Nat
  | .abc => 0 | .acb => 1

def Component.all : List Component :=
  [.gearboxHs, .gearboxIms, .gearboxPlanet, .mainBearing, .generator, .blades, .converter, .yaw, .pitch, .other]
def Component.code : Component → Nat
  | .gearboxHs => 0 | .gearboxIms => 1 | .gearboxPlanet => 2 | .mainBearing => 3 | .generator => 4
  | .blades => 5 | .converter => 6 | .yaw => 7 | .pitch => 8 | .other => 9

def Task.all : List Task := [.inspect, .service, .replace]
def Task.code : Task → Nat
  | .inspect => 0 | .service => 1 | .replace => 2

def DeliveryMode.all : List DeliveryMode := [.send, .hold]
def DeliveryMode.code : DeliveryMode → Nat
  | .send => 0 | .hold => 1

/-- Operating states of section 11.2. -/
def OpState.all : List OpState := [.stopped, .idling, .producing, .curtailed, .fault, .service]
def OpState.code : OpState → Nat
  | .stopped => 0 | .idling => 1 | .producing => 2 | .curtailed => 3 | .fault => 4 | .service => 5

def Curtail.code : Curtail → Nat
  | .none => 0 | .reduce => 1 | .stop => 2

def Freshness.code : Freshness → Nat
  | .none => 0 | .fresh => 1 | .stale => 2

def Advisory.code : Advisory → Nat
  | .quiet => 0 | .pending _ _ => 1 | .sending _ => 2 | .sendingPending _ _ _ => 3 | .holding _ => 4

def ChannelState.code : ChannelState → Nat
  | .unbound => 0 | .idle => 1 | .settling => 2 | .running => 3 | .suspended => 4

def Intake.code : Intake → Nat
  | .unbound => 0 | .idle => 1 | .assembling => 2 | .suspended => 3

def Verdict.code : Verdict → Nat
  | .void => 0 | .unevaluated _ => 1 | .classed => 2

def Reason.code : Reason → Nat
  | .noStatus => 0 | .service => 1 | .notRunning => 2 | .offSpeed => 3

def ThresholdSet.code : ThresholdSet → Nat
  | .normal => 0 | .ice => 1

def IceState.code : IceState → Nat
  | .noData => 0 | .clear => 1 | .watch => 2 | .suspect => 3 | .iced => 4 | .thawing => 5

def BaselineStatus.code : BaselineStatus → Nat
  | .none => 0 | .learning _ => 1 | .valid => 2 | .loaded => 3

def GridVerdict.code : GridVerdict → Nat
  | .offSync => 0 | .phaseOrder => 1 | .noFundamental => 2 | .evaluated => 3

def GridAlarm.code : GridAlarm → Nat
  | .normal => 0 | .alarm => 1

def SyncCondition.code : SyncCondition → Nat
  | .none => 0 | .sound => 1 | .offSync => 2 | .phaseOrder => 3

def SyncState.code : SyncState → Nat
  | .unset => 0 | .locked => 1 | .holdover => 2

def MaintState.code : MaintState → Nat
  | .disabled => 0 | .idle => 1 | .soon => 2 | .due => 3 | .overdue => 4

def Trigger.code : Trigger → Nat
  | .alarmRise => 0 | .iced => 1 | .manual => 2

def SlotState.code : SlotState → Nat
  | .free => 0 | .filling => 1 | .held => 2

def AnalysisState.code : AnalysisState → Nat
  | .active => 0 | .suspending => 1 | .suspended => 2

/-- Notice class codes of section 11.3. -/
def NoticeClass.code : NoticeClass → Nat
  | .ice => 1 | .vib => 2 | .gridAlarm => 3 | .maint => 4 | .access => 5 | .capture => 6 | .gridFault => 7
  | .link => 8 | .config => 9

/-- Reply status codes of section 11.3. -/
def ReplyStatus.code : ReplyStatus → Nat
  | .ok => 0 | .okAdjusted => 1 | .busy => 2 | .badTable => 3 | .badIndex => 4 | .badValue => 5 | .readOnly => 6
  | .conflict => 7 | .refused => 8 | .notNow => 9 | .malformed => 10

/-- Refusal reason codes of section 11.3. -/
def RefusalReason.code : RefusalReason → Nat
  | .producing => 1 | .disabled => 2 | .noTime => 3 | .limit => 4 | .usageDue => 5 | .condition => 6
  | .notRunning => 7 | .channelBusy => 8 | .noSlot => 9 | .empty => 10

def portCode : Port → Nat
  | .field => 0 | .station => 1

end Sys2Proof.Machine
end

