-- ==== Sys2Proof/Machine/Ops.lean ====
section
/-! DEFINITION. The named updates of State, one per table or unit, and the form every meaning has. -/

namespace Sys2Proof.Machine

/-- `f` taken for every index in increasing order. -/
def forAll (n : Nat) (f : Fin n → State → State) (s : State) : State :=
  (List.finRange n).foldl (fun s i => f i s) s

def State.modTurbine (s : State) (t : Fin 8) (f : Turbine → Turbine) : State :=
  { s with turbines := upd s.turbines t f }

def State.modChannel (s : State) (c : Fin 24) (f : Channel → Channel) : State :=
  { s with channels := upd s.channels c f }

def State.modInst (s : State) (i : Fin 96) (f : Inst → Inst) : State :=
  { s with insts := upd s.insts i f }

/-- Every instance changed at once, each knowing its id. -/
def State.mapInsts (s : State) (f : Fin 96 → Inst → Inst) : State :=
  { s with insts := tabulate 96 fun i => f i s.insts[i] }

def State.modIce (s : State) (t : Fin 8) (f : IceRecord → IceRecord) : State :=
  { s with ice := upd s.ice t f }

def State.modPoint (s : State) (p : Fin 2) (f : GridPoint → GridPoint) : State :=
  { s with points := upd s.points p f }

def State.modSlot (s : State) (k : Fin 2) (f : Slot → Slot) : State :=
  { s with slots := upd s.slots k f }

def State.modItem (s : State) (e : Fin 96) (f : MaintItem → MaintItem) : State :=
  { s with items := upd s.items e f }

def State.modCounts (s : State) (e : Fin 64) (f : StreamCounts → StreamCounts) : State :=
  { s with counts := upd s.counts e f }

def State.modErrors (s : State) (f : ErrorRecord → ErrorRecord) : State :=
  { s with errors := f s.errors }

/-- The ports of the link by name. -/
def Link.port (l : Link) : Port → PortState
  | .field => l.field
  | .station => l.station

def Link.modPort (l : Link) (p : Port) (f : PortState → PortState) : Link :=
  match p with
  | .field => { l with field := f l.field }
  | .station => { l with station := f l.station }

def State.modPort (s : State) (p : Port) (f : PortState → PortState) : State :=
  { s with link := s.link.modPort p f }

/-- The free-running ms counter (R194). -/
def State.now (s : State) : Nat := s.clock.counter

/-- The clock's day, ms of day and sync state as they stand (R173). -/
def State.stamp (s : State) : Stamp := ⟨s.clock.day, s.clock.ms, s.clock.sync⟩

/-- The instance at position `p` of channel `c` (R27). -/
def instId (c : Fin 24) (p : Fin 4) : Fin 96 := ⟨c.1 * 4 + p.1, by omega⟩

/-- The channel of an instance: its id divided by 4 and rounded down (R79, R158). -/
def instChannel (i : Fin 96) : Fin 24 := ⟨i.1 / 4, by omega⟩

/-- The binding position of an instance. -/
def instPos (i : Fin 96) : Fin 4 := ⟨i.1 % 4, by omega⟩

/-- A timer that runs has reached its expiry (R194). -/
def due (expiry : Option Nat) (now : Nat) : Bool :=
  match expiry with
  | none => false
  | some e => decide (e ≤ now)

/-- The copy of the band in force at an instance, absent when the instance is not bound (R27, R47). -/
def State.bandOf (s : State) (i : Fin 96) : Option BandEntry :=
  s.channels[instChannel i].config.bands[instPos i]

/-- The turbine of a channel in its configuration in force. -/
def State.turbineOf (s : State) (c : Fin 24) : Fin 8 := s.channels[c].config.entry.turbine

end Sys2Proof.Machine
end

