-- ==== Sys2Proof/Machine/Flags.lean ====
section
/-! DEFINITION. Every flag and derived state the rules compute: port health, error record, class masks,
window marks and verdict, running and held tests. -/

namespace Sys2Proof.Machine

/-! ### Port health (R189) -/

inductive Health where
  | clean | noisy | poor
deriving DecidableEq, Repr

def Health.code : Health → Nat
  | .clean => 0 | .noisy => 1 | .poor => 2

/-- The health state a counter gives. -/
def healthOf (counter : Nat) : Health :=
  if counter ≤ 63 then .clean else if counter ≤ 191 then .noisy else .poor

/-- The counter after a frame received: 8 up to 255 for a bad one, 1 down to 0 for a good one. -/
def healthStep (good : Bool) (counter : Nat) : Nat :=
  if good then counter - 1 else min 255 (counter + 8)

/-! ### Error record (R199) -/

def State.setMalformed (s : State) : State := s.modErrors fun e => { e with malformedRequest := true }
def State.setReadOnlyWrite (s : State) : State := s.modErrors fun e => { e with readOnlyWrite := true }
def State.setNoSuchTable (s : State) : State := s.modErrors fun e => { e with noSuchTable := true }
def State.setForwardOverflow (s : State) : State := s.modErrors fun e => { e with forwardOverflow := true }
def State.setNoticeOverflow (s : State) : State := s.modErrors fun e => { e with noticeOverflow := true }
def State.setMgmtOverflow (s : State) : State := s.modErrors fun e => { e with mgmtOverflow := true }
def State.setMgmtOnFieldPort (s : State) : State := s.modErrors fun e => { e with mgmtOnFieldPort := true }

/-- The flags as one byte, bit 0 MALFORMED_REQUEST through bit 6 MGMT_ON_FIELD_PORT (R214). -/
def ErrorRecord.bits (e : ErrorRecord) : Nat :=
  (if e.malformedRequest then 1 else 0) + (if e.readOnlyWrite then 2 else 0) + (if e.noSuchTable then 4 else 0) +
    (if e.forwardOverflow then 8 else 0) + (if e.noticeOverflow then 16 else 0) + (if e.mgmtOverflow then 32 else 0) +
    (if e.mgmtOnFieldPort then 64 else 0)

/-! ### Class sets (R171, R215) -/

/-- A class is in a set: bit c stands for class code c. -/
def inSet (m : ClassSet) (c : NoticeClass) : Bool := m.getLsbD c.code

/-- The turbine-bound classes ICE, VIB, MAINT, ACCESS, CAPTURE (section 8.1). -/
def NoticeClass.turbineBound : NoticeClass → Bool
  | .ice | .vib | .maint | .access | .capture => true
  | .gridAlarm | .gridFault | .link | .config => false

/-- The bits of the turbine-bound classes: what a turbine's notice mask may hold (R1). -/
def turbineClasses : ClassSet := 0b0000000001110110#16

/-- The bits of the nine classes: what the global mask may hold (R180). -/
def allClasses : ClassSet := 0b0000001111111110#16

/-! ### Turbine context (R7, R8) -/

/-- PRODUCING or CURTAILED: the states read as running. -/
def OpState.running : OpState → Bool
  | .producing | .curtailed => true
  | .stopped | .idling | .fault | .service => false

/-- A turbine is running for the jobs that ask (R7). -/
def Turbine.running (t : Turbine) : Bool := decide (t.freshness = .fresh) && t.status.op.running

/-- In service for advisories: valid with advisory enable set (R14). -/
def TurbineEntry.inService (e : TurbineEntry) : Bool := e.valid && e.advisoryEnable

/-- The held set SUSPECT, ICED, THAWING (R98). -/
def IceState.held : IceState → Bool
  | .suspect | .iced | .thawing => true
  | .noData | .clear | .watch => false

/-- The ice set may be used: ICED or THAWING (R58). -/
def IceState.iceSet : IceState → Bool
  | .iced | .thawing => true
  | .noData | .clear | .watch | .suspect => false

/-- The curtail request an ice state gives with the entry's iced curtail level (R94). -/
def curtailOf (level : IcedLevel) : IceState → Curtail
  | .iced => match level with
    | .reduce => .reduce
    | .stop => .stop
  | .thawing => .reduce
  | .noData | .clear | .watch | .suspect => .none

/-! ### Window verdict and marks (R60 to R63) -/

/-- The window's speeds lie in the gate; absent speeds pass (they are present whenever the test is reached, R61). -/
def speedInGate (b : BandEntry) : Option (Nat × Nat) → Bool
  | none => true
  | some (lo, hi) => decide (b.speedMin ≤ lo) && decide (hi ≤ b.speedMax)

/-- The verdict of R60 and R61: the first test that holds. `op` is the stored operating state at close. -/
def verdictOf (w : WindowContext) (b : BandEntry) (op : OpState) : Verdict :=
  if w.void then .void
  else if !w.fresh then .unevaluated .noStatus
  else if !w.producing then .unevaluated (if op = .service then .service else .notRunning)
  else if !speedInGate b w.speed then .unevaluated .offSpeed
  else .classed

/-- The class of R59: the number of thresholds that Net reaches or exceeds. -/
def classOf (t : Thresholds) (net : Nat) : Nat :=
  (if t.t1 ≤ net then 1 else 0) + (if t.t2 ≤ net then 1 else 0) + (if t.t3 ≤ net then 1 else 0)

/-- The DISTURBED mark of R63, from the current Turbine Table and the points' alarm records. -/
def State.disturbed (s : State) (t : Fin 8) : Bool :=
  s.tables.turbines[t].valid &&
    match s.tables.turbines[t].gridPoint with
    | none => false
    | some p => decide (s.points[p].alarm = .alarm)

end Sys2Proof.Machine
end

