-- ==== Sys2Proof/Machine/Notices.lean ====
section
/-! DEFINITION. The notice queue: masking, numbering, placing, overflow and leaving (chapter 8). -/

namespace Sys2Proof.Machine

/-- An offer without subject, value or marks, to be filled by the creating rule (section 8.2). -/
def Offer.base (cls : NoticeClass) (priority old new gen : Nat) : Offer :=
  { cls := cls, priority := priority, turbine := none, subject := .nothing, old := BitVec.ofNat 8 old,
    new := BitVec.ofNat 8 new, value := .absent, gen := gen, accessHold := false, noBaseline := false }

/-- Whether an offer is masked (R171). -/
def State.masked (s : State) (o : Offer) : Bool :=
  inSet s.tables.global.mask o.cls ||
    match o.turbine with
    | none => false
    | some t => o.cls.turbineBound && s.tables.turbines[t].valid && inSet s.tables.turbines[t].noticeMask o.cls

/-- The next number after `n`, passing every number a queued notice holds (R172); `fuel` counts the
numbers that may be passed. -/
def nextFree (q : List Notice) : Nat → Nat → Nat
  | 0, n => n
  | fuel + 1, n => if q.any (fun x => x.number = n) then nextFree q fuel ((n + 1) % 65536) else n

/-- The next notice number once `n` has been taken (R172). -/
def advanceNumber (q : List Notice) (n : Nat) : Nat := nextFree q (q.length + 1) ((n + 1) % 65536)

/-- R174: after every notice of its own or a more urgent priority, before every less urgent one. -/
def placeNotice (n : Notice) : List Notice → List Notice
  | [] => [n]
  | x :: rest => if x.offer.priority ≤ n.offer.priority then x :: placeNotice n rest else n :: x :: rest

/-- A queued notice that an overflow may displace: not in transmission and strictly less urgent (R175). -/
def NoticeQueue.candidate (q : NoticeQueue) (priority : Nat) (x : Notice) : Bool :=
  decide (q.sending ≠ some x.number) && decide (priority < x.offer.priority)

/-- The number of the candidate of the greatest priority number that was created last: in queue order,
the last candidate (R174, R175; log 28). -/
def NoticeQueue.displaced (q : NoticeQueue) (priority : Nat) : Option Nat :=
  ((q.queue.filter (q.candidate priority)).getLast?).map Notice.number

/-- The created notice placed, with displacement or discard when 48 are queued (R174, R175). -/
def NoticeQueue.insert (q : NoticeQueue) (n : Notice) : List Notice :=
  if q.queue.length < Config.noticeSize then placeNotice n q.queue
  else
    match q.displaced n.offer.priority with
    | some k => placeNotice n (q.queue.filter fun x => x.number ≠ k)
    | none => q.queue

/-- The notice an offer creates: numbered and stamped (R172, R173). -/
def State.notice (s : State) (o : Offer) : Notice := { offer := o, number := s.notices.next, stamp := s.stamp }

/-- A block offers a notice (R171 to R175): a masked offer changes nothing. -/
def offer (o : Offer) (s : State) : State :=
  if s.masked o then s
  else
    { s with
      notices := { s.notices with
        queue := s.notices.insert (s.notice o)
        next := advanceNumber s.notices.queue s.notices.next }
      errors := if s.notices.queue.length < Config.noticeSize then s.errors
        else { s.errors with noticeOverflow := true } }

/-- The head of the queue: the first notice that is not in transmission (R174). -/
def NoticeQueue.head (q : NoticeQueue) : Option Notice := q.queue.find? fun x => q.sending ≠ some x.number

/-- A LINK notice of a port (R189) or of the clock (R192): priority 3, current generation. -/
def linkNotice (subject : Subject) (old new : Nat) (s : State) : State :=
  offer { Offer.base .link 3 old new s.generation with subject := subject } s

/-- The state code of a time step (R192, section 11.3). -/
def steppedBack : Nat := 3

/-- CONFIG notice "applied" (R203). -/
def appliedNotice (s : State) : State :=
  offer { Offer.base .config 3 0 1 s.generation with value := .generation s.generation } s

/-- CONFIG notice "suspended" (R204). -/
def suspendedNotice (s : State) : State := offer (Offer.base .config 3 2 3 s.generation) s

end Sys2Proof.Machine
end

