-- ==== Sys2Proof/Machine/Turbines.lean ====
section
/-! DEFINITION. The turbine context unit: STATUS intake, freshness, window contexts, worst level, curtail
request and advisories (chapter 1). -/

namespace Sys2Proof.Machine

/-! ### Window contexts (R8) -/

/-- The context a window of channel `c` takes at its start (R8, R56). -/
def State.snapshot (s : State) (c : Fin 24) (void : Bool) : WindowContext :=
  let t := s.turbines[s.turbineOf c]
  { fresh := decide (t.freshness = .fresh)
    producing := decide (t.freshness ≠ .none) && t.status.op.running
    speed := if t.freshness = .none then none else some (t.status.shaft, t.status.shaft)
    gen := s.channels[c].gen
    void := void }

/-- An event at turbine `t` reaches the open windows of every channel that names it (R8). -/
def eachWindow (t : Fin 8) (f : WindowContext → WindowContext) (s : State) : State :=
  s.mapInsts fun i x => if s.turbineOf (instChannel i) = t then { x with window := x.window.map f } else x

/-- A STATUS frame taken during a window (R8). -/
def WindowContext.status (st : Status) (w : WindowContext) : WindowContext :=
  { w with
    producing := w.producing && st.op.running
    speed := match w.speed with
      | none => some (st.shaft, st.shaft)
      | some (lo, hi) => some (min lo st.shaft, max hi st.shaft) }

/-- The freshness lost during a window (R8). -/
def WindowContext.stale (w : WindowContext) : WindowContext := { w with fresh := false }

/-! ### STATUS frames (R3 to R5, R213) -/

/-- The status fields of a STATUS payload, each brought into its range (R4). -/
def statusOf (payload : List Byte) : Status :=
  { op := (OpState.all[at8 payload 0]?).getD .fault
    rotor := min 3000 (at16 payload 1)
    shaft := min 30000 (at16 payload 3)
    ambient := clampInt (-500) 600 (sat16 payload 5)
    humidity := min 100 (at8 payload 7)
    power := min 20000 (at16 payload 8) }

/-- A STATUS frame is taken: valid turbine entry and the STATUS payload length (R3, R213). -/
def State.statusTaken (s : State) (t : Fin 8) (payload : List Byte) : Bool :=
  s.tables.turbines[t].valid && decide (payload.length = 10)

/-- The event of taking a STATUS frame (R5). -/
def takeStatus (t : Fin 8) (payload : List Byte) (s : State) : State :=
  eachWindow t (WindowContext.status (statusOf payload))
    (s.modTurbine t fun x =>
      { x with freshness := .fresh, freshExpiry := s.now + Config.freshMs, status := statusOf payload,
               lastStatus := s.now })

/-- The freshness timeout expires: FRESH becomes STALE, delivered to the open windows (R6). -/
def freshnessExpires (t : Fin 8) (s : State) : State :=
  if s.turbines[t].freshness = .fresh ∧ s.turbines[t].freshExpiry ≤ s.now then
    eachWindow t WindowContext.stale (s.modTurbine t fun x => { x with freshness := .stale })
  else s

/-- The running status at its reset values, freshness NONE and the timeout stopped (R2, R20). -/
def Turbine.clearStatus (x : Turbine) : Turbine :=
  { x with freshness := .none, freshExpiry := 0, status := Status.init, lastStatus := 0 }

/-! ### Worst vibration level (R11) -/

/-- The highest level among the MEASURE instances of channels that name the turbine. -/
def State.worstOf (s : State) (t : Fin 8) : Nat :=
  (List.finRange 96).foldl
    (fun m i =>
      if s.turbineOf (instChannel i) = t ∧ (s.bandOf i).map BandEntry.role = some .measure
      then max m s.insts[i].alarm.level else m) 0

def recomputeWorst (t : Fin 8) (s : State) : State := s.modTurbine t fun x => { x with worst := s.worstOf t }

/-! ### Curtail request and advisories (R12, R14 to R17) -/

/-- The curtail change event at an in-service turbine's mechanism (R14). -/
def Advisory.change (v : Curtail) (now : Nat) : Advisory → Advisory
  | .quiet => .pending v now
  | .pending _ since => .pending v since
  | .sending x => .sendingPending x v now
  | .sendingPending x _ since => .sendingPending x v since
  | .holding _ => .pending v now

/-- The ice monitor writes the curtail request (R12): the value already held is not a change. -/
def writeCurtail (t : Fin 8) (v : Curtail) (s : State) : State :=
  if s.turbines[t].curtail = v then s
  else
    s.modTurbine t fun x =>
      { x with
        curtail := v
        advisory := if s.tables.turbines[t].inService then x.advisory.change v s.now else x.advisory }

/-- The mechanism when an advisory's frame completes (R15), also for a frame that was in transmission at a Restart FULL,
where R20 says QUIET: a turbine that an Apply has brought back into service meanwhile follows R15 (DEDUCED, log 25). -/
def Advisory.complete (inService : Bool) (curtail : Curtail) (now : Nat) : Advisory → Advisory
  | .sending v =>
    if !inService then .quiet
    else if curtail ≠ v then .pending curtail now
    else if curtail = .none then .quiet
    else .holding (now + Config.resendMs)
  | .sendingPending _ w since => .pending w since
  | .quiet => .quiet
  | .pending v since => .pending v since
  | .holding e => .holding e

/-- The re-send timer of a HOLDING turbine expires (R16). -/
def resendExpires (t : Fin 8) (s : State) : State :=
  match s.turbines[t].advisory with
  | .holding e =>
    if e ≤ s.now then s.modTurbine t fun x => { x with advisory := .pending x.curtail e } else s
  | _ => s

/-- The mechanism of a turbine that goes out of service (R17). -/
def Advisory.leaveService : Advisory → Advisory
  | .quiet | .pending _ _ | .holding _ => .quiet
  | .sending v => .sending v
  | .sendingPending v _ _ => .sending v

/-- The mechanism of a turbine that comes into service with its request at `curtail` (R17). -/
def Advisory.enterService (curtail : Curtail) (now : Nat) (a : Advisory) : Advisory :=
  if curtail = .none then a
  else
    match a with
    | .quiet => .pending curtail now
    | .sending v => .sendingPending v curtail now
    | a => a

/-- The change of service at an Apply, from the turbine entry that was current before (R17). -/
def serviceChange (old new : TurbineEntry) (now : Nat) (x : Turbine) : Turbine :=
  if old.inService && !new.inService then { x with advisory := x.advisory.leaveService }
  else if !old.inService && new.inService then { x with advisory := x.advisory.enterService x.curtail now }
  else x

end Sys2Proof.Machine
end

