-- ==== Sys2Proof/Machine/Maintenance.lean ====
section
/-! DEFINITION. The maintenance scheduler: evaluation, usage, schedule day, access hold, loads, Done and
Defer (chapter 6). -/

namespace Sys2Proof.Machine

/-! ### Evaluation (R141 to R143) -/

/-- The date part, as a state code from IDLE 1 to OVERDUE 4 (R141). -/
def datePart (day : Option Nat) (dueDay lead grace : Nat) : MaintState :=
  match day with
  | none => .idle
  | some s =>
    if dueDay + grace ≤ s then .overdue
    else if dueDay ≤ s then .due
    else if (dueDay : Int) - (lead : Int) ≤ (s : Int) then .soon
    else .idle

/-- The usage part, the products compared exactly (R142). -/
def usagePart (usage limit : Nat) : MaintState :=
  if limit = 0 then .idle
  else if 5 * limit ≤ 4 * usage then .overdue
  else if limit ≤ usage then .due
  else if 7 * limit ≤ 8 * usage then .soon
  else .idle

/-- The more advanced of two parts (R143). -/
def moreAdvanced (a b : MaintState) : MaintState := if a.code < b.code then b else a

/-- The state an evaluation gives an entry (R143). -/
def MaintItem.evaluated (e : MaintItem) (day : Option Nat) (grace : Nat) : MaintState :=
  if !e.valid then .disabled
  else moreAdvanced (datePart day e.dueDay e.lead grace) (usagePart e.usage e.usageLimit)

/-- The MAINT notice of entry `n` between two states, with the access-hold mark read from the ice monitor
as it is created (R144). -/
def maintNotice (n : Fin 96) (old new : MaintState) (s : State) : State :=
  let e := s.items[n]
  offer { Offer.base .maint 2 old.code new.code s.generation with
          turbine := some e.turbine, subject := .entry n, value := .usage e.usage,
          accessHold := s.ice[e.turbine].state.held } s

/-- Evaluating an entry: a change of state queues its MAINT notice (R143). -/
def evaluate (n : Fin 96) (s : State) : State :=
  let old := s.items[n].state
  let new := s.items[n].evaluated s.scheduleDay s.tables.global.graceDays
  if new = old then s
  else maintNotice n old new (s.modItem n fun e => { e with state := new })

/-! ### Usage (R135 to R139) -/

def usageMax : Nat := 4294967295

/-- An addition of a weight to an entry, which is then evaluated (R135). -/
def addUsage (n : Fin 96) (w : Nat) (s : State) : State :=
  evaluate n (s.modItem n fun e => { e with usage := min (e.usage + w) usageMax })

/-- A report that concerns the entries for which `weight` gives a weight: valid entries, in increasing number. -/
def report (weight : MaintItem → Option Nat) (s : State) : State :=
  forAll 96 (fun n s =>
    if s.items[n].valid then
      match weight s.items[n] with
      | some w => addUsage n w s
      | none => s
    else s) s

/-- The weight of class `c` (R136). -/
def classWeight (w : Vector Nat 4) (c : Nat) : Nat := (w.toList[c]?).getD 0

/-- The band engine's report of a CLASSED window of class `c` at a MEASURE instance (R75, R136). -/
def reportVib (i : Fin 96) (c : Nat) (s : State) : State :=
  report (fun e => match e.source with
    | .vib ids w => if i ∈ ids then some (classWeight w c) else none
    | _ => none) s

/-- A minute event (R137): asks each valid RUN-source entry's turbine whether it is running. -/
def reportMinute (s : State) : State :=
  report (fun e => match e.source with
    | .run w => if s.turbines[e.turbine].running then some w else none
    | _ => none) s

/-- The grid analyser's report of an exceeding EVALUATED block (R138). -/
def reportGrid (p : Fin 2) (s : State) : State :=
  report (fun e => match e.source with
    | .grid q w => if q = p then some w else none
    | _ => none) s

/-- The band engine's report of a TRACK close of a channel naming turbine `t` (R75, R139), taken before the
window's own icing step. -/
def reportTrack (t : Fin 8) (s : State) : State :=
  if s.ice[t].state = .iced then
    report (fun e => match e.source with
      | .ice w => if e.turbine = t then some w else none
      | _ => none) s
  else s

/-! ### The schedule day (R140, R145) -/

def evaluateValid (s : State) : State :=
  forAll 96 (fun n s => if s.items[n].valid then evaluate n s else s) s

/-- A day-change event with the clock's new day. -/
def dayChange (s : State) : State :=
  evaluateValid { s with scheduleDay := match s.scheduleDay with
    | none => none
    | some d => some (max d s.clock.day) }

/-- The clock leaves UNSET. -/
def clockSet (s : State) : State := evaluateValid { s with scheduleDay := some s.clock.day }

/-! ### The access hold (R146, R147) -/

/-- The ACCESS notice of a turbine: OPEN 0, HELD 1 (section 11.3). -/
def accessNotice (t : Fin 8) (old new : Nat) (hold : Bool) (s : State) : State :=
  offer { Offer.base .access 2 old new s.generation with turbine := some t, accessHold := hold } s

/-- The ice monitor reports "hold" (R146). -/
def holdReported (t : Fin 8) (s : State) : State := accessNotice t 0 1 true s

/-- A MAINT notice re-issued: the current state as old and new state, no mark (R147). -/
def reissue (t : Fin 8) (n : Fin 96) (s : State) : State :=
  let e := s.items[n]
  if e.valid && decide (e.turbine = t) && (decide (e.state = .due) || decide (e.state = .overdue)) then
    maintNotice n e.state e.state s
  else s

/-- The ice monitor reports "restored" (R147). -/
def restoredReported (t : Fin 8) (s : State) : State := forAll 96 (reissue t) (accessNotice t 1 0 false s)

/-! ### Loads (R132, R133) -/

/-- A load into the current entry (R132, steps 1 to 4). -/
def MaintItem.loaded (cur : MaintItem) (l : MaintLoad) : MaintItem :=
  { valid := l.valid, turbine := l.turbine, component := l.component, task := l.task, interval := l.interval,
    dueDay := l.dueDay, baseDue := l.dueDay, lead := l.lead, usageLimit := l.usageLimit,
    usage := l.usage.getD cur.usage, source := l.source, lastDone := l.lastDone,
    deferrals := if l.turbine = cur.turbine ∧ l.component = cur.component ∧ l.task = cur.task then cur.deferrals else 0,
    state := cur.state }

/-- The marked entries are loaded, the marks removed, and then each loaded entry, or with a change of the
grace days every valid one too, is evaluated once in increasing number (R132, R133). -/
def applyMaintenance (graceChanged : Bool) (s : State) : State :=
  let marks := s.staged.marks
  let s := { s with
    items := tabulate 96 fun n => if marks[n] then s.items[n].loaded s.staged.loads[n] else s.items[n]
    staged := { s.staged with marks := Vector.replicate 96 false } }
  forAll 96 (fun n s => if marks[n] || (graceChanged && s.items[n].valid) then evaluate n s else s) s

/-! ### Done and Defer (R149, R152, R153); the cross-job effects of a REPLACE stand in Requests.lean -/

/-- Steps 1 to 4 of R149, with today the schedule day. -/
def MaintItem.done (e : MaintItem) (today : Nat) : MaintItem :=
  { e with usage := 0, baseDue := min (today + e.interval) 65535, dueDay := min (today + e.interval) 65535,
           deferrals := 0, lastDone := some today }

/-- R153: the due day moved by `days` and one deferral counted. -/
def MaintItem.defer (e : MaintItem) (days : Nat) : MaintItem :=
  { e with dueDay := min (e.dueDay + days) 65535, deferrals := e.deferrals + 1 }

/-- Any instance of a VIB source holds level 3, in an active or a dormant record (R152). -/
def State.dangerListed (s : State) (e : MaintItem) : Bool :=
  match e.source with
  | .vib ids _ => ids.any fun i => s.insts[i].alarm.level = 3
  | _ => false

/-- The tests of R152 that depend on state, in their order: the reason of the first that holds. -/
def State.deferRefused (s : State) (n : Fin 96) : Option RefusalReason :=
  let e := s.items[n]
  if !e.valid then some .disabled
  else if s.scheduleDay = none then some .noTime
  else if e.deferrals = 3 then some .limit
  else if usagePart e.usage e.usageLimit = .due ∨ usagePart e.usage e.usageLimit = .overdue then some .usageDue
  else if s.dangerListed e then some .condition
  else none

end Sys2Proof.Machine
end

