-- ==== Sys2Proof/Machine/Capture.lean ====
section
/-! DEFINITION. The capture unit: triggers, filling, truncation, reading and release (chapter 7). -/

namespace Sys2Proof.Machine

/-- A slot is FILLING for channel `c`. -/
def Slot.fillingFor (x : Slot) (c : Fin 24) : Bool := decide (x.state = .filling) && decide (x.channel = c)

/-- The CAPTURE notice of a slot that became HELD (R164): FILLING 0 to HELD 0 or HELD_TRUNCATED 1. -/
def heldNotice (k : Fin 2) (s : State) : State :=
  let x := s.slots[k]
  offer { Offer.base .capture 2 0 (if x.truncated then 1 else 0) x.gen with
          turbine := some x.turbine, subject := .slot k } s

/-- A decimated sample is appended to the slot FILLING for its channel; at post count 2048 the slot
becomes HELD with its notice (R161). -/
def captureAppend (c : Fin 24) (y : Int) (s : State) : State :=
  forAll 2 (fun k s =>
    if s.slots[k].fillingFor c then
      let s := s.modSlot k fun x => { x with samples := x.samples ++ [y], post := x.post + 1 }
      if Config.postSize ≤ s.slots[k].post then heldNotice k (s.modSlot k fun x => { x with state := .held }) else s
    else s) s

/-- The channel stops delivering its samples: its FILLING slot becomes HELD and truncated, with its
notice (R162). -/
def captureTruncate (c : Fin 24) (s : State) : State :=
  forAll 2 (fun k s =>
    if s.slots[k].fillingFor c then
      heldNotice k (s.modSlot k fun x => { x with state := .held, truncated := true })
    else s) s

/-- The first test of R159 that holds, as the reason of a refusal. -/
def State.captureRefused (s : State) (c : Fin 24) : Option RefusalReason :=
  if s.channels[c].state ≠ .running ∧ s.channels[c].state ≠ .settling then some .notRunning
  else if s.slots[(0 : Fin 2)].fillingFor c || s.slots[(1 : Fin 2)].fillingFor c then some .channelBusy
  else if s.slots[(0 : Fin 2)].state ≠ .free ∧ s.slots[(1 : Fin 2)].state ≠ .free then some .noSlot
  else none

/-- The lowest-numbered FREE slot: slot 0 when it is FREE, otherwise slot 1 (R160). -/
def State.freeSlot (s : State) : Fin 2 := if s.slots[(0 : Fin 2)].state = .free then 0 else 1

/-- The start of a capture (R160). -/
def captureStart (c : Fin 24) (trigger : Trigger) (origin : Option (Fin 96)) (gen : Nat) (s : State) : State :=
  let ch := s.channels[c]
  s.modSlot s.freeSlot fun _ =>
    { state := .filling, channel := c, turbine := ch.config.entry.turbine, trigger := trigger, origin := origin,
      stamp := s.stamp, counter := s.now, decimation := ch.config.entry.decimation, gen := gen,
      pre := ch.ring.length, post := 0, truncated := false, samples := ch.ring }

/-- The CAPTURE notice of a triggered request that is MISSED (R164): MISSED_CHANNEL_BUSY 3 or MISSED_NO_SLOT 4.
A triggered request passes the test NOT_RUNNING (R159). -/
def missedNotice (c : Fin 24) (old : Nat) (origin : Fin 96) (gen : Nat) (reason : RefusalReason) (s : State) : State :=
  offer { Offer.base .capture 2 old (if reason = .channelBusy then 3 else 4) gen with
          turbine := some (s.turbineOf c), subject := .inst origin } s

/-- The old state code of a MISSED notice: 1 ALARM_RISE, 2 ICED (section 11.3). -/
def Trigger.missedCode : Trigger → Nat
  | .iced => 2
  | .alarmRise | .manual => 1

/-- A triggered request, ALARM_RISE or ICED, from an instance (R158, R159): an ICED request of a channel
whose capture-on-trigger is clear is dropped. -/
def captureTrigger (i : Fin 96) (trigger : Trigger) (gen : Nat) (s : State) : State :=
  let c := instChannel i
  if trigger = .iced ∧ s.channels[c].config.entry.captureOnTrigger = false then s
  else
    match s.captureRefused c with
    | some reason => missedNotice c trigger.missedCode i gen reason s
    | none => captureStart c trigger (some i) gen s

/-- How many blocks of 64 samples a slot has (R165). A slot without samples, which is read as one block 0, has 1, in its
descriptor too (DEDUCED, log 46). -/
def Slot.blocks (x : Slot) : Nat := max 1 ((x.pre + x.post + 63) / 64)

/-- The samples of block `b` (R165). -/
def Slot.block (x : Slot) (b : Nat) : List Int := (x.samples.drop (64 * b)).take 64

end Sys2Proof.Machine
end

