-- ==== Sys2Proof/Machine/Icing.lean ====
section
/-! DEFINITION. The ice monitor: track windows, the ice state machine, baselines and their effects (chapter 4). -/

namespace Sys2Proof.Machine

/-- The conditions of a track window (R83, R84). -/
structure TrackConditions where
  fresh : Bool
  gate : Bool
  evaluable : Bool
  evidence : Bool
  /-- The ambient temperature at close is at or above Tthaw (R90), and at or above Tlearn (R92). -/
  warm : Bool
  learnWarm : Bool
deriving DecidableEq, Repr

/-- The deficit D16 = B16 - 16 C (R84). -/
def deficit (b : Blade) (c : Nat) : Int := (b.b16 : Int) - 16 * (c : Int)

/-- The blade's baseline may be used: VALID or LOADED. -/
def Blade.usable (b : Blade) : Bool :=
  match b.status with
  | .valid | .loaded => true
  | .none | .learning _ => false

/-- The conditions of R83 and the evidence of R84, from the turbine context as it stands. -/
def trackConditions (e : IceEntry) (t : Turbine) (b : Blade) (verdict : Verdict) (c : Nat) : TrackConditions :=
  let fresh := decide (t.freshness = .fresh)
  let evaluable := decide (verdict = .classed) && decide (e.rotorMin ≤ t.status.rotor)
  { fresh := fresh
    gate := fresh && decide (t.status.ambient ≤ e.ticeMax) && decide (e.rhMin ≤ t.status.humidity)
    evaluable := evaluable
    evidence := evaluable && b.usable && decide ((e.dmin16 : Int) ≤ deficit b c)
    warm := decide (e.tthaw ≤ t.status.ambient)
    learnWarm := decide (e.tlearn ≤ t.status.ambient) }

/-- A record in state `st` with the three counts as given. -/
def IceRecord.counts (r : IceRecord) (st : IceState) (evidence clear thaw : Nat) : IceRecord :=
  { r with state := st, evidence := evidence, clear := clear, thaw := thaw }

/-- A fresh window in CLEAR (R87). -/
def stepClear (k : TrackConditions) (r : IceRecord) : IceRecord :=
  if k.gate then r.counts .watch 0 0 0 else r

/-- The clear step of a fresh window in WATCH (R88, step 2), the evidence count being `ev`. -/
def watchClear (e : IceEntry) (k : TrackConditions) (ev : Nat) (r : IceRecord) : IceRecord :=
  if k.evidence then r.counts .watch ev 0 0
  else if k.gate then r.counts .watch ev 0 0
  else if e.nclear ≤ r.clear + 1 then r.counts .clear 0 0 0
  else r.counts .watch ev (r.clear + 1) 0

/-- A fresh window in WATCH (R88). -/
def stepWatch (e : IceEntry) (k : TrackConditions) (r : IceRecord) : IceRecord :=
  if k.evidence then
    if e.nsuspect ≤ r.evidence + 1 then
      if e.niced = e.nsuspect then r.counts .iced e.niced 0 0 else r.counts .suspect e.nsuspect 0 0
    else watchClear e k (r.evidence + 1) r
  else if k.evaluable then watchClear e k (r.evidence - 1) r
  else watchClear e k r.evidence r

/-- A fresh window in SUSPECT (R89). -/
def stepSuspect (e : IceEntry) (k : TrackConditions) (r : IceRecord) : IceRecord :=
  if k.evidence then
    if e.niced ≤ r.evidence + 1 then r.counts .iced e.niced 0 0 else r.counts .suspect (r.evidence + 1) 0 0
  else if k.evaluable then
    if r.evidence - 1 = 0 then r.counts .watch 0 0 0 else r.counts .suspect (r.evidence - 1) 0 0
  else r

/-- A fresh window in ICED (R90). -/
def stepIced (e : IceEntry) (k : TrackConditions) (r : IceRecord) : IceRecord :=
  if k.warm then
    if e.nthaw ≤ r.thaw + 1 then r.counts .thawing e.niced 0 0 else r.counts .iced e.niced 0 (r.thaw + 1)
  else r.counts .iced e.niced 0 0

/-- A fresh window in THAWING (R91). -/
def stepThawing (e : IceEntry) (k : TrackConditions) (r : IceRecord) : IceRecord :=
  if k.evidence then r.counts .iced e.niced 0 0
  else if k.evaluable then
    if e.nclear ≤ r.clear + 1 then r.counts .clear 0 0 0 else r.counts .thawing e.niced (r.clear + 1) 0
  else r

/-- The state step of a track window (R86 to R91): a window that is not fresh changes no count and no state. -/
def iceStep (e : IceEntry) (k : TrackConditions) (r : IceRecord) : IceRecord :=
  if !k.fresh then r
  else
    match r.state with
    | .noData => stepClear k (r.counts .clear 0 0 0)
    | .clear => stepClear k r
    | .watch => stepWatch e k r
    | .suspect => stepSuspect e k r
    | .iced => stepIced e k r
    | .thawing => stepThawing e k r

/-- The corrected B16: diff = 16 C - B16, diff / 16 truncated toward zero added (R92). -/
def corrected (b16 c : Nat) : Nat := ((b16 : Int) + ((16 * (c : Int) - (b16 : Int)).tdiv 16)).toNat

/-- The learning step of an evaluable warm window in CLEAR (R92). -/
def Blade.learn (b : Blade) (c : Nat) : Blade :=
  match b.status with
  | .none => { b with b16 := 16 * c, status := .learning 1 }
  | .learning n =>
    { b with b16 := corrected b.b16 c, status := if n < 31 then .learning (n + 1) else .valid }
  | .valid => { b with b16 := corrected b.b16 c }
  | .loaded => b

/-- The state code of an ICE notice: ice state in the high four bits, curtail request in the low (section 11.3). -/
def iceCode (st : IceState) (c : Curtail) : Nat := 16 * st.code + c.code

/-- The ICE notice of a change (R95, R96), the record and the curtail request being those after it. -/
def iceNotice (t : Fin 8) (old : IceState) (oldCurtail : Curtail) (subject : Subject) (value : NoticeValue)
    (gen : Nat) (mark : Bool) (s : State) : State :=
  offer { Offer.base .ice 0 (iceCode old oldCurtail) (iceCode s.ice[t].state s.turbines[t].curtail) gen with
          turbine := some t, subject := subject, value := value, noBaseline := mark } s

/-- R96: no blade of the record has a baseline of status VALID or LOADED. -/
def IceRecord.noBaseline (r : IceRecord) : Bool := r.blades.toList.all fun b => !b.usable

/-- R98: entering the held set is reported as "hold", leaving it as "restored". -/
def holdReports (t : Fin 8) (old new : IceState) (s : State) : State :=
  if !old.held && new.held then holdReported t s
  else if old.held && !new.held then restoredReported t s
  else s

/-- The blade position at which an entry lists an instance (R82). -/
def IceEntry.blade (e : IceEntry) (i : Fin 96) : Option (Fin 3) :=
  (List.finRange 3).find? fun b => e.track[b.1]? = some i

/-- The value of a track window's ICE notice: D16 when the blade's baseline was VALID or LOADED, otherwise C (R95). -/
def trackValue (b : Blade) (c : Nat) : NoticeValue :=
  if b.usable then .deficit (deficit b c) else .crossings c

/-- The effects of a track window's change of ice state, in the order R94 to R98. -/
def iceEffects (t : Fin 8) (i : Fin 96) (old : IceState) (value : NoticeValue) (gen : Nat) (s : State) : State :=
  let new := s.ice[t].state
  let oldCurtail := s.turbines[t].curtail
  let s := writeCurtail t (curtailOf s.tables.ice[t].level new) s
  let s := iceNotice t old oldCurtail (.inst i) value gen (decide (new = .watch) && s.ice[t].noBaseline) s
  let s := if new = .iced ∧ old ≠ .iced then captureTrigger i .iced gen s else s
  holdReports t old new s

/-- A track window of blade `b` of turbine `t` (R85). -/
def trackWindow (t : Fin 8) (b : Fin 3) (i : Fin 96) (verdict : Verdict) (c gen : Nat) (s : State) : State :=
  let e := s.tables.ice[t]
  let old := s.ice[t].state
  let blade := s.ice[t].blades[b]
  let k := trackConditions e s.turbines[t] blade verdict c
  let s := s.modIce t fun r => { r with blades := upd r.blades b fun x => { x with lastC := some c } }
  let s := s.modIce t (iceStep e k)
  let s := if s.ice[t].state = .clear ∧ k.evaluable = true ∧ k.learnWarm = true then
      s.modIce t fun r => { r with blades := upd r.blades b fun x => x.learn c } else s
  if s.ice[t].state = old then s else iceEffects t i old (trackValue blade c) gen s

/-- The hand-over of a TRACK close (R74, R82): a track window when the current entry of the turbine is
valid and lists the instance; otherwise nothing changes. -/
def handOver (i : Fin 96) (t : Fin 8) (verdict : Verdict) (c gen : Nat) (s : State) : State :=
  if s.tables.ice[t].valid then
    match s.tables.ice[t].blade i with
    | some b => trackWindow t b i verdict c gen s
    | none => s
  else s

/-- An Ice override that is not refused (R99). -/
def overrideIce (t : Fin 8) (s : State) : State :=
  let old := s.ice[t].state
  let oldCurtail := s.turbines[t].curtail
  let s := s.modIce t fun r => r.counts .clear 0 0 0
  if old = .clear then s
  else
    let s := writeCurtail t .none s
    let s := iceNotice t old oldCurtail .nothing .absent s.generation false s
    holdReports t old .clear s

/-- Every blade position of a turbine set to B16 0 with status NONE, last C kept (R100, R151). -/
def resetBaselines (t : Fin 8) (s : State) : State :=
  s.modIce t fun r => { r with blades := tabulate 3 fun b => { r.blades[b] with b16 := 0, status := .none } }

/-! ### Apply (R80, R81) -/

/-- The counts brought to the limits of a valid entry (R80). -/
def IceRecord.clampCounts (r : IceRecord) (e : IceEntry) : IceRecord :=
  { r with
    evidence := match r.state with
      | .watch => min r.evidence e.nsuspect
      | .iced | .thawing => e.niced
      | .noData | .clear | .suspect => min r.evidence e.niced
    clear := min r.clear e.nclear
    thaw := min r.thaw e.nthaw }

/-- One blade position at an Apply of a valid entry (R81). -/
def applyBlade (old new : IceEntry) (b : Fin 3) (x : Blade) : Blade :=
  match new.track[b.1]? with
  | none => { b16 := 0, status := .none, lastC := none }
  | some i =>
    let moved := decide (old.track[b.1]? ≠ some i)
    match new.load[b] with
    | some v => { b16 := v, status := .loaded, lastC := if moved then none else x.lastC }
    | none =>
      if moved then { b16 := 0, status := .none, lastC := none }
      else if x.status = .loaded then { x with b16 := 0, status := .none }
      else x

/-- The Ice Table entry of turbine `t` takes effect, `old` being the entry that was current (R80, R81). The record of an
entry that is not valid after the Apply is frozen, and its counts are then not brought to the entry's limits (DEDUCED,
log 42). -/
def applyIce (old : IceEntry) (t : Fin 8) (s : State) : State :=
  let e := s.tables.ice[t]
  if e.valid then
    let s := s.modIce t fun r => r.clampCounts e
    let s :=
      if s.ice[t].state = .iced ∧ s.turbines[t].curtail ≠ curtailOf e.level .iced then
        let oldCurtail := s.turbines[t].curtail
        let s := writeCurtail t (curtailOf e.level .iced) s
        iceNotice t .iced oldCurtail .nothing .absent s.generation false s
      else s
    s.modIce t fun r => { r with blades := tabulate 3 fun b => applyBlade old e b r.blades[b] }
  else s

end Sys2Proof.Machine
end

