-- ==== Sys2Proof/Machine/Bands.lean ====
section
/-! DEFINITION. The band engine: filter cascade, accumulation, window start and close, alarm records (chapter 3). -/

namespace Sys2Proof.Machine

/-! ### The filter cascade (R50, R51) -/

/-- The accumulator of a section in full width (R50). -/
def Biquad.acc (q : Biquad) (z : SectionState) (x : Int) : Int :=
  q.b0 * x + q.b1 * z.x1 + q.b2 * z.x2 - q.a1 * z.y1 - q.a2 * z.y2

/-- The section output before saturation: floor((acc + 4096) / 8192) (R50). -/
def Biquad.raw (q : Biquad) (z : SectionState) (x : Int) : Int := (q.acc z x + 4096) / 8192

/-- Saturation to a signed 16-bit value. -/
def saturate16 (y : Int) : Int := clampInt (-32768) 32767 y

/-- One section: its new state, its output, and whether it saturated (R50, R51). -/
def Biquad.step (q : Biquad) (z : SectionState) (x : Int) : SectionState × Int × Bool :=
  if q.bypass then (SectionState.init, x, false)
  else
    let y := saturate16 (q.raw z x)
    ({ x1 := x, x2 := z.x1, y1 := y, y2 := z.y1 }, y, decide (q.raw z x ≠ y))

/-- The cascade: each section's output is the input of the next (section 3.3). -/
def cascade (q : Vector Biquad 4) (z : Vector SectionState 4) (x : Int) : Vector SectionState 4 × Int × Bool :=
  let r0 := q[0].step z[0] x
  let r1 := q[1].step z[1] r0.2.1
  let r2 := q[2].step z[2] r1.2.1
  let r3 := q[3].step z[3] r2.2.1
  (#v[r0.1, r1.1, r2.1, r3.1], r3.2.1, r0.2.2 || r1.2.2 || r2.2.2 || r3.2.2)

/-! ### Per-sample steps of a RUNNING instance (R52 to R55) -/

/-- The cascade output limited by the clip limit (R53). -/
def clipTo (limit : Nat) (v : Int) : Int := clampInt (-(limit : Int)) limit v

/-- The crossing step of a TRACK instance (R55). -/
def crossingStep (h : Nat) (v : Int) (x : Inst) : Inst :=
  if x.armed = true ∧ (h : Int) ≤ v then { x with crossings := x.crossings + 1, armed := false }
  else if v ≤ -(h : Int) then { x with armed := true }
  else x

/-- A decimated sample at a bound instance in SETTLING: the cascade alone (R52). -/
def Inst.settle (b : BandEntry) (y : Int) (x : Inst) : Inst :=
  { x with filter := (cascade b.sections x.filter y).1 }

/-- A decimated sample at a bound instance in RUNNING (R51 to R55). -/
def Inst.sample (b : BandEntry) (y : Int) (x : Inst) : Inst :=
  let r := cascade b.sections x.filter y
  let v := clipTo b.clip r.2.1
  let x := { x with
    filter := r.1
    satCount := if r.2.2 then min 16384 (x.satCount + 1) else x.satCount
    clipCount := if v ≠ r.2.1 then x.clipCount + 1 else x.clipCount
    sumSq := x.sumSq + v.natAbs ^ 2 }
  match b.role with
  | .measure => x
  | .track => crossingStep b.hysteresis v x

/-- Filter state, sums, counts, armed flag and window fields cleared (R34, R48). -/
def Inst.clearRun (x : Inst) : Inst :=
  { x with filter := Vector.replicate 4 SectionState.init, sumSq := 0, clipCount := 0, satCount := 0, crossings := 0,
           armed := false, window := none }

/-- Filter state and armed flag cleared (R39, R55). -/
def Inst.clearFilter (x : Inst) : Inst :=
  { x with filter := Vector.replicate 4 SectionState.init, armed := false }

/-- A window starts at a bound instance with this context (R56). -/
def Inst.startWindow (w : WindowContext) (x : Inst) : Inst :=
  { x with sumSq := 0, clipCount := 0, satCount := 0, crossings := 0, window := some w }

/-! ### Alarm records (R66 to R68) -/

/-- The raise side of the persistence step (R66). -/
def AlarmRecord.raise (a : AlarmRecord) (c : Nat) (disturbed : Bool) (p : Nat) : AlarmRecord :=
  if a.level < c then
    if disturbed then a
    else
      let low := match a.raiseLevel with
        | none => c
        | some r => min r c
      if p ≤ a.raiseCount + 1 then ⟨low, 0, none, 0, none⟩
      else { a with raiseCount := a.raiseCount + 1, raiseLevel := some low }
  else { a with raiseCount := 0, raiseLevel := none }

/-- The clear side of the persistence step (R67). -/
def AlarmRecord.lower (a : AlarmRecord) (c : Nat) (q : Nat) : AlarmRecord :=
  if c < a.level then
    let high := match a.clearLevel with
      | none => c
      | some r => max r c
    if q ≤ a.clearCount + 1 then ⟨high, 0, none, 0, none⟩
    else { a with clearCount := a.clearCount + 1, clearLevel := some high }
  else { a with clearCount := 0, clearLevel := none }

/-- The persistence step of a CLASSED window of class `c` (R66, then R67). -/
def AlarmRecord.step (a : AlarmRecord) (c : Nat) (disturbed : Bool) (p q : Nat) : AlarmRecord :=
  (a.raise c disturbed p).lower c q

/-- The priority of a VIB notice, by the higher of the two levels (R70). -/
def vibPriority (old new : Nat) : Nat :=
  if max old new = 3 then 0 else if max old new = 2 then 1 else 3

/-- The VIB notice of a level change at an instance (R70). -/
def vibNotice (i : Fin 96) (old new : Nat) (value : NoticeValue) (gen : Nat) (s : State) : State :=
  offer { Offer.base .vib (vibPriority old new) old new gen with
          turbine := some (s.turbineOf (instChannel i)), subject := .inst i, value := value } s

/-- A level change at a window close: notice, capture request on a rise to 2 or 3, worst level (R69 to R71). -/
def levelChange (i : Fin 96) (b : BandEntry) (old new net gen : Nat) (s : State) : State :=
  let s := vibNotice i old new (.net net) gen s
  let s :=
    if old < new ∧ 2 ≤ new ∧ b.captureOnAlarm = true ∧
        s.channels[instChannel i].config.entry.captureOnTrigger = true then
      captureTrigger i .alarmRise gen s
    else s
  recomputeWorst (s.turbineOf (instChannel i)) s

/-- The persistence step of a MEASURE instance with a CLASSED window (R65, step 3). -/
def persistStep (i : Fin 96) (b : BandEntry) (c : Nat) (disturbed : Bool) (net gen : Nat) (s : State) : State :=
  let old := s.insts[i].alarm
  let new := old.step c disturbed b.persistence b.clear
  let s := s.modInst i fun x => { x with alarm := new }
  if new.level = old.level then s else levelChange i b old.level new.level net gen s

/-- The alarm record of an instance is active: bound to a MEASURE band (R49). -/
def State.alarmActive (s : State) (i : Fin 96) : Bool := decide ((s.bandOf i).map BandEntry.role = some .measure)

/-- The reset of an alarm record by a REPLACE completion (R72). -/
def resetAlarm (i : Fin 96) (s : State) : State :=
  let old := s.insts[i].alarm.level
  let active := s.alarmActive i
  let s := s.modInst i fun x => { x with alarm := AlarmRecord.init }
  if active = true ∧ 0 < old then
    recomputeWorst (s.turbineOf (instChannel i)) (vibNotice i old 0 .absent s.generation s)
  else s

/-! ### The close of a window at an instance (R57 to R65) -/

/-- The threshold set a MEASURE instance classes against (R58). -/
def chosenSet (b : BandEntry) (ice : IceState) : ThresholdSet := if b.iceRelaxed && ice.iceSet then .ice else .normal

/-- The thresholds of a set. -/
def BandEntry.thresholds (b : BandEntry) : ThresholdSet → Thresholds
  | .normal => b.normal
  | .ice => b.ice

/-- The result record of a close, from the state in which the close is taken (R57 to R64). -/
def State.closeResult (s : State) (i : Fin 96) (b : BandEntry) (w : WindowContext) : InstResult :=
  let ch := s.channels[instChannel i]
  let t := ch.config.entry.turbine
  let x := s.insts[i]
  let ms := x.sumSq / ch.config.entry.window
  let net := ms - b.floor
  let set := chosenSet b s.ice[t].state
  { gen := w.gen
    closeTime := s.now
    verdict := verdictOf w b s.turbines[t].status.op
    ms := ms
    net := net
    cls := match b.role with
      | .measure => some (classOf (b.thresholds set) net, set)
      | .track => none
    crossings := match b.role with
      | .measure => none
      | .track => some x.crossings
    marks := { gapped := ch.gapped, clipped := decide (0 < x.clipCount), saturated := decide (0 < x.satCount),
               disturbed := s.disturbed t }
    clipCount := x.clipCount
    satCount := x.satCount
    speed := w.speed }

/-- The close of a window at instance `i`, in the order of R65. -/
def closeInstance (i : Fin 96) (s : State) : State :=
  match s.bandOf i, s.insts[i].window with
  | some b, some w =>
    let r := s.closeResult i b w
    let t := s.turbineOf (instChannel i)
    let s :=
      match b.role with
      | .measure =>
        if r.verdict = Verdict.classed then
          let c := match r.cls with
            | some (c, _) => c
            | none => 0
          reportVib i c (persistStep i b c r.marks.disturbed r.net w.gen s)
        else s
      | .track => handOver i t r.verdict s.insts[i].crossings w.gen (reportTrack t s)
    s.modInst i fun x => { x with lastResult := some r }
  | _, _ => s

end Sys2Proof.Machine
end

