-- ==== Sys2Proof/Machine/Channels.lean ====
section
/-! DEFINITION. The stream classifier's counts and the channel engine: intake, decimation, windows, adoption,
suspension (chapter 2). -/

namespace Sys2Proof.Machine

/-! ### Source entries and counts (R22, R24, R25) -/

/-- The valid Stream Table entry that feeds a target, the lowest-numbered one. -/
def Tables.sourceOf (t : Tables) (f : StreamFeed) : Option (Fin 64) :=
  (List.finRange 64).find? fun e => t.streams[e].valid && decide (t.streams[e].feed = f)

/-- An entry matches a frame's source node and stream tag (R22). -/
def StreamEntry.matchesFrame (e : StreamEntry) (source : BitVec 6) (tag : Byte) : Bool :=
  e.valid && decide (source &&& e.nodeMask = e.nodeMatch &&& e.nodeMask) &&
    decide (tag &&& e.tagMask = e.tagMatch &&& e.tagMask)

/-- The frame's entry: the lowest-numbered valid entry that matches (R22). -/
def Tables.classify (t : Tables) (source : BitVec 6) (tag : Byte) : Option (Fin 64) :=
  (List.finRange 64).find? fun e => t.streams[e].matchesFrame source tag

/-- A frame handed by entry `e` was taken by its target (R24). -/
def countTaken (e : Fin 64) (s : State) : State :=
  s.modCounts e fun x => { x with framesTaken := min 65535 (x.framesTaken + 1) }

/-- The target found a gap in a frame handed by entry `e` (R24). -/
def countGap (e : Fin 64) (s : State) : State :=
  s.modCounts e fun x => { x with gapEvents := min 65535 (x.gapEvents + 1) }

/-! ### Bound, pending, reports (R27, R35, R38, R40, R204) -/

/-- The channel is bound: a source entry and at least one bound instance (R27). -/
def State.channelBound (s : State) (c : Fin 24) : Bool :=
  (s.tables.sourceOf (.vibChannel c)).isSome && s.channels[c].config.bands.toList.any Option.isSome

/-- The channel is pending: its generation in force differs from the current one (section 2.6). -/
def State.channelPending (s : State) (c : Fin 24) : Bool := decide (s.channels[c].gen ≠ s.generation)

/-- Some channel is pending. -/
def State.anyPending (s : State) : Bool := (List.finRange 24).any s.channelPending

/-- The landing ends when no channel is pending, with the CONFIG notice "applied" (R40). -/
def landingCheck (s : State) : State :=
  if s.landing && !s.anyPending then appliedNotice { s with landing := false } else s

/-- No channel is RUNNING or SETTLING (R41). -/
def State.channelsQuiet (s : State) : Bool :=
  s.channels.toList.all fun ch => decide (ch.state ≠ .running) && decide (ch.state ≠ .settling)

/-- No point is ASSEMBLING (R112). -/
def State.pointsQuiet (s : State) : Bool := s.points.toList.all fun p => decide (p.intake ≠ .assembling)

/-- The reports of R41 and R112 are made and held while SUSPENDING, and both together move the analysis
state to SUSPENDED with its CONFIG notice (R204). -/
def suspendCheck (s : State) : State :=
  if s.analysis = .suspending then
    let s := { s with channelReport := s.channelReport || s.channelsQuiet, gridReport := s.gridReport || s.pointsQuiet }
    if s.channelReport && s.gridReport then suspendedNotice { s with analysis := .suspended } else s
  else s

/-! ### Configurations (section 2.6, R39) -/

/-- The configuration the current tables give channel `c`. -/
def Tables.configOf (t : Tables) (c : Fin 24) : ChannelConfig :=
  { entry := t.channels[c]
    bands := tabulate 4 fun p => t.channels[c].bindings[p].map fun b => t.bands[b] }

/-- The GEOMETRY fields of a bound band differ (R39). -/
def bandGeometryDiffers : Option BandEntry → Option BandEntry → Bool
  | some a, some b => decide (a.role ≠ b.role) || decide (a.sections ≠ b.sections) || decide (a.clip ≠ b.clip)
  | none, none => false
  | _, _ => true

/-- The adoption is a GEOMETRY change (R39). -/
def geometryDiffers (old new : ChannelConfig) : Bool :=
  decide (old.entry.decimation ≠ new.entry.decimation) || decide (old.entry.window ≠ new.entry.window) ||
    decide (old.entry.settle ≠ new.entry.settle) || decide (old.entry.bindings ≠ new.entry.bindings) ||
    (List.finRange 4).any fun p => bandGeometryDiffers old.bands[p] new.bands[p]

/-- The P and Q in force at an instance. -/
def persistenceOf (b : Option BandEntry) : Option (Nat × Nat) := b.map fun b => (b.persistence, b.clear)

/-- The runs of an alarm record emptied, its level kept (R49). -/
def AlarmRecord.emptyRuns (a : AlarmRecord) : AlarmRecord := ⟨a.level, 0, none, 0, none⟩

/-- An adoption at one instance (R39, R48, R49): `oldIndex` and `newIndex` are its binding before and
after, `old` and `new` the band copies, `geometry` the class of the adoption. The runs are emptied when the
P or Q in force change, a new binding included (log 20). -/
def Inst.adopt (geometry : Bool) (oldIndex newIndex : Option (Fin 32)) (old new : Option BandEntry) (x : Inst) : Inst :=
  let x := if oldIndex ≠ newIndex then x.clearRun else if geometry then x.clearFilter else x
  let x := if new.isSome ∧ old.isNone then { x with boundSinceReset := true } else x
  if new.isSome ∧ persistenceOf old ≠ persistenceOf new then { x with alarm := x.alarm.emptyRuns } else x

/-- The channel takes the current configuration and generation, with the effects of R39, R48, R49 and R11
that do not depend on its state, and the landing is looked at (R40). -/
def adopt (c : Fin 24) (s : State) : State :=
  let old := s.channels[c].config
  let new := s.tables.configOf c
  let geometry := geometryDiffers old new
  let decimation := decide (old.entry.decimation ≠ new.entry.decimation)
  let s := if decimation then captureTruncate c s else s
  let s := s.modChannel c fun ch =>
    { ch with config := new, gen := s.generation,
              group := if decimation then [] else ch.group, ring := if decimation then [] else ch.ring }
  let s := s.mapInsts fun i x =>
    if instChannel i = c then
      x.adopt geometry old.entry.bindings[instPos i] new.entry.bindings[instPos i] old.bands[instPos i]
        new.bands[instPos i]
    else x
  landingCheck (recomputeWorst new.entry.turbine (recomputeWorst old.entry.turbine s))

/-- A pending channel adopts; any other stands (R38). -/
def adoptIfPending (c : Fin 24) (s : State) : State := if s.channelPending c then adopt c s else s

/-! ### Runs and states (R34 to R36, R41) -/

/-- The work of ending a run (R34). -/
def endRun (c : Fin 24) (s : State) : State :=
  let s := s.modChannel c fun ch =>
    { ch with group := [], ring := [], settleProgress := 0, windowProgress := 0, gapped := false }
  let s := s.mapInsts fun i x => if instChannel i = c then x.clearRun else x
  captureTruncate c s

/-- The channel enters IDLE or UNBOUND: expectation and last input absent, timer stopped (R31, R34, R35). -/
def Channel.rest (st : ChannelState) (ch : Channel) : Channel :=
  { ch with state := st, marked := false, streamIdle := false, expect := none, lastInput := none, idleExpiry := none }

/-- The channel enters SUSPENDED: its idle timer restarts (R31, R41). -/
def Channel.enterSuspended (now : Nat) (ch : Channel) : Channel :=
  { ch.rest .suspended with idleExpiry := some (now + Config.channelIdleMs) }

/-- A window starts at a RUNNING channel (R37, R56); `void` when the adopting boundary makes it VOID (R39). -/
def startWindow (c : Fin 24) (void : Bool) (s : State) : State :=
  let w := s.snapshot c void
  let s := s.modChannel c fun ch => { ch with state := .running, windowProgress := 0, gapped := false }
  s.mapInsts fun i x => if instChannel i = c ∧ (s.bandOf i).isSome then x.startWindow w else x

/-- The settle progress has reached the settle count in force: the channel enters RUNNING (R36). -/
def settleCheck (c : Fin 24) (s : State) : State :=
  if s.channels[c].config.entry.settle ≤ s.channels[c].settleProgress then startWindow c false s else s

/-- A run starts in SETTLING with a new grouping and a running idle timer (R36, R42). -/
def startRun (c : Fin 24) (s : State) : State :=
  settleCheck c (s.modChannel c fun ch =>
    { ch with state := .settling, settleProgress := 0, windowProgress := 0, group := [], streamIdle := false,
              idleExpiry := some (s.now + Config.channelIdleMs) })

/-- Where a channel goes when its run ends. -/
inductive RunEnd where
  | discard | idle | suspend | unbind
deriving DecidableEq, Repr

/-- The channel's run ends (R34), a pending channel adopts (R38), and it enters its next state: UNBOUND when it
is not bound, SUSPENDED when it was marked to suspend (R41), otherwise as `next` says. A discard keeps the
expectation and the last input sample (R30). The CAPTURE notice of a truncated slot is queued before the CONFIG notice
that the adoption may give (DESIGN CHOICE, log 45). -/
def leaveRun (c : Fin 24) (next : RunEnd) (s : State) : State :=
  let marked := s.channels[c].marked
  let s := adoptIfPending c (endRun c s)
  suspendCheck <|
    if next = .unbind ∨ s.channelBound c = false then s.modChannel c (Channel.rest .unbound)
    else if marked = true ∨ next = .suspend then s.modChannel c (Channel.enterSuspended s.now)
    else if next = .idle then s.modChannel c (Channel.rest .idle)
    else settleCheck c (s.modChannel c fun ch => { ch with state := .settling })

/-- After an adoption in a state without a run, the channel checks whether it is bound (R35, R38). -/
def bindCheck (c : Fin 24) (s : State) : State :=
  if s.channelBound c then
    if s.channels[c].state = .unbound then
      if s.analysis = .active then s.modChannel c (Channel.rest .idle)
      else s.modChannel c (Channel.enterSuspended s.now)
    else s
  else s.modChannel c (Channel.rest .unbound)

/-- A pending channel that is SETTLING adopts at once: a GEOMETRY change returns the settle progress to 0 (R39),
and a run that lost its binding ends (R35), its CAPTURE notice behind the adoption's CONFIG notice (DESIGN CHOICE,
log 45). -/
def adoptSettling (c : Fin 24) (s : State) : State :=
  let geometry := geometryDiffers s.channels[c].config (s.tables.configOf c)
  let s := adopt c s
  if s.channelBound c then
    settleCheck c (if geometry then s.modChannel c fun ch => { ch with settleProgress := 0 } else s)
  else suspendCheck ((endRun c s).modChannel c (Channel.rest .unbound))

/-- The boundary after a window's closes (R37): adoption, suspension, or the next window. -/
def boundary (c : Fin 24) (s : State) : State :=
  let pending := s.channelPending c
  let geometry := geometryDiffers s.channels[c].config (s.tables.configOf c)
  let s := adoptIfPending c s
  if s.channelBound c = false then leaveRun c .unbind s
  else if s.channels[c].marked then leaveRun c .suspend s
  else startWindow c (pending && geometry) s

/-- The window closes at each bound instance in increasing position, and the boundary is taken (R37). -/
def closeWindow (c : Fin 24) (s : State) : State :=
  boundary c (forAll 4 (fun p s => closeInstance (instId c p) s) s)

/-! ### Decimation and the passage of a decimated sample (R32, R33) -/

/-- Input samples of a group. -/
def Decimation.size : Decimation → Nat
  | .d1 => 1 | .a2 => 2 | .a4 => 4 | .s2 => 2 | .s4 => 4

/-- The decimated sample of a complete group, and whether a filled sample contributed to it (R30, R32; in the
selecting modes only the first sample contributes, log 19). -/
def Decimation.output (d : Decimation) (g : List (Int × Bool)) : Int × Bool :=
  match d with
  | .d1 | .s2 | .s4 => g.headD (0, false)
  | .a2 => ((g.map Prod.fst).sum / 2, g.any Prod.snd)
  | .a4 => ((g.map Prod.fst).sum / 4, g.any Prod.snd)

/-- A decimated sample enters the ring (R33). -/
def pushRing (ring : List Int) (y : Int) : List Int :=
  if ring.length < Config.ringSize then ring ++ [y] else ring.drop 1 ++ [y]

/-- The passage of a decimated sample (R33), with the window close and the settling that may follow. -/
def passSample (c : Fin 24) (y : Int) (filled : Bool) (s : State) : State :=
  let s := s.modChannel c fun ch => { ch with ring := pushRing ch.ring y }
  let s := captureAppend c y s
  let running := decide (s.channels[c].state = .running)
  let s := s.mapInsts fun i x =>
    if instChannel i = c then
      match s.bandOf i with
      | some b => if running then x.sample b y else x.settle b y
      | none => x
    else x
  if running then
    let s := s.modChannel c fun ch => { ch with windowProgress := ch.windowProgress + 1, gapped := ch.gapped || filled }
    if s.channels[c].config.entry.window ≤ s.channels[c].windowProgress then closeWindow c s else s
  else settleCheck c (s.modChannel c fun ch => { ch with settleProgress := ch.settleProgress + 1 })

/-- The channel is in a run: SETTLING or RUNNING. -/
def ChannelState.inRun : ChannelState → Bool
  | .settling | .running => true
  | .unbound | .idle | .suspended => false

/-- An input sample, filled or not, enters the decimator (R32); a channel whose run has ended uses none (log 18). -/
def pushInput (c : Fin 24) (x : Int × Bool) (s : State) : State :=
  if s.channels[c].state.inRun then
    let d := s.channels[c].config.entry.decimation
    let g := s.channels[c].group ++ [x]
    if d.size ≤ g.length then
      passSample c (d.output g).1 (d.output g).2 (s.modChannel c fun ch => { ch with group := [] })
    else s.modChannel c fun ch => { ch with group := g }
  else s

def pushInputs (c : Fin 24) (xs : List (Int × Bool)) (s : State) : State := xs.foldl (fun s x => pushInput c x s) s

/-! ### Frame intake (R28 to R31, R212) -/

/-- A SAMPLE payload is well-sized under `fs` frame samples (R212). -/
def wellSized (payload : List Byte) (fs : Nat) : Bool :=
  decide (payload.length = 2 + 2 * at8 payload 1) && decide (at8 payload 1 = fs)

/-- The frame is taken (R28): it is counted, and while the channel is in a run the expectation and the last
input sample are set and its samples enter the decimator. -/
def takeFrame (c : Fin 24) (e : Fin 64) (payload : List Byte) (s : State) : State :=
  let s := countTaken e s
  if s.channels[c].state.inRun then
    let xs := samplesOf (payload.drop 2)
    pushInputs c (xs.map fun x => (x, false))
      (s.modChannel c fun ch => { ch with expect := some (BitVec.ofNat 8 (at8 payload 0 + 1)), lastInput := xs.getLast? })
  else s

/-- The missing samples of a gap event (R30): filled within the tolerance, or the run is discarded. -/
def gapRule (c : Fin 24) (missing : Nat) (s : State) : State :=
  if missing ≤ s.channels[c].config.entry.gapTolerance then
    pushInputs c (List.replicate missing (s.channels[c].lastInput.getD 0, true)) s
  else leaveRun c .discard s

/-- After a wrong-sized frame that counted as missing, the expectation follows it while a run goes on (R29, R30). -/
def expectAfter (c : Fin 24) (seq : Nat) (s : State) : State :=
  if s.channels[c].state.inRun then s.modChannel c fun ch => { ch with expect := some (BitVec.ofNat 8 (seq + 1)) } else s

/-- Whether a discard left the frame untaken: the channel is no longer in a run though the gap was beyond
tolerance (R41, log 18). -/
def State.discardedAway (s : State) (c : Fin 24) (beyond : Bool) : Bool := beyond && !s.channels[c].state.inRun

/-- A frame with a sequence number handed to a channel in a run (R28 to R30). -/
def checkFrame (c : Fin 24) (e : Fin 64) (payload : List Byte) (s : State) : State :=
  let ch := s.channels[c]
  let fs := ch.config.entry.frameSamples
  match ch.expect with
  | none => if wellSized payload fs then takeFrame c e payload s else s
  | some x =>
    let d := (BitVec.ofNat 8 (at8 payload 0) - x).toNat
    if 128 ≤ d then s
    else if wellSized payload fs then
      if d = 0 then takeFrame c e payload s
      else
        let beyond := decide (ch.config.entry.gapTolerance < d * fs)
        let s := gapRule c (d * fs) (countGap e s)
        if s.discardedAway c beyond then s else takeFrame c e payload s
    else expectAfter c (at8 payload 0) (gapRule c ((d + 1) * fs) (countGap e s))

/-- A SAMPLE frame handed by entry `e` to channel `c`, as one event (R28 to R31, R35, R36, R41, R212). At a SUSPENDED
channel every frame that restarts the timer also clears the idle note, one shorter than two bytes included (DEDUCED,
log 43). -/
def takeSample (c : Fin 24) (e : Fin 64) (payload : List Byte) (s : State) : State :=
  let restart := fun (ch : Channel) => { ch with idleExpiry := some (s.now + Config.channelIdleMs) }
  match s.channels[c].state with
  | .unbound => s
  | .idle =>
    if wellSized payload s.channels[c].config.entry.frameSamples then takeFrame c e payload (startRun c s) else s
  | .suspended => s.modChannel c fun ch => { restart ch with streamIdle := false }
  | .settling | .running =>
    if payload.length < 2 then s.modChannel c restart else checkFrame c e payload (s.modChannel c restart)

/-- A channel's idle timer expires (R31). -/
def channelIdleExpires (c : Fin 24) (s : State) : State :=
  if due s.channels[c].idleExpiry s.now then
    match s.channels[c].state with
    | .settling | .running => leaveRun c .idle s
    | .suspended => s.modChannel c fun ch => { ch with idleExpiry := none, streamIdle := true }
    | .idle | .unbound => s
  else s

/-! ### Apply, Suspend, Resume, Restart PROCESSING (R25, R38, R41, R42, R45) -/

/-- The source entry of a channel before and after an Apply (R25). A run that ends here while SUSPENDING may make the
last report of R41, so its CONFIG notice "suspended" comes before the Apply's "applied" (DESIGN CHOICE, log 33). -/
def sourceChange (old : Tables) (c : Fin 24) (s : State) : State :=
  let feed := StreamFeed.vibChannel c
  match old.sourceOf feed, s.tables.sourceOf feed with
  | some _, none =>
    if s.channels[c].state.inRun then leaveRun c .unbind s else s.modChannel c (Channel.rest .unbound)
  | some a, some b =>
    if a = b ∧ old.streams[a] = s.tables.streams[b] then s else s.modChannel c fun ch => { ch with expect := none }
  | none, _ => s

/-- The channel takes the new generation at an Apply (R38): at once without a difference or outside RUNNING,
otherwise it stays pending. -/
def takeGeneration (c : Fin 24) (s : State) : State :=
  if s.channels[c].config = s.tables.configOf c then
    bindCheck c (landingCheck (s.modChannel c fun ch => { ch with gen := s.generation }))
  else
    match s.channels[c].state with
    | .running => s
    | .settling => adoptSettling c s
    | .idle | .unbound | .suspended => bindCheck c (adopt c s)

/-- A channel answers a Suspend (R41). -/
def suspendChannel (c : Fin 24) (s : State) : State :=
  match s.channels[c].state with
  | .running => s.modChannel c fun ch => { ch with marked := true }
  | .settling => leaveRun c .suspend s
  | .idle => s.modChannel c (Channel.enterSuspended s.now)
  | .unbound | .suspended => s

/-- A channel answers a Resume (R42). -/
def resumeChannel (c : Fin 24) (s : State) : State :=
  match s.channels[c].state with
  | .suspended => if s.channels[c].streamIdle then s.modChannel c (Channel.rest .idle) else startRun c s
  | .running => s.modChannel c fun ch => { ch with marked := false }
  | .settling | .idle | .unbound => s

/-- Restart PROCESSING at a channel (R45): its run ends, it takes the current generation, and it enters IDLE
when it is bound and UNBOUND otherwise. -/
def restartChannel (c : Fin 24) (s : State) : State :=
  let s := adoptIfPending c (if s.channels[c].state.inRun then endRun c s else s)
  s.modChannel c (Channel.rest (if s.channelBound c then .idle else .unbound))

end Sys2Proof.Machine
end

