-- ==== Sys2Proof/Machine/GridPoints.lean ====
section
/-! DEFINITION. The grid analyser: intake, blocks, crossing detectors, table DFT, verdicts, alarm and sync
condition (chapter 5). -/

namespace Sys2Proof.Machine

/-! ### The tables C and S (R116) -/

/-- C[0..16], the first quarter of the table. -/
def cosQuarter : List Int :=
  [16384, 16305, 16069, 15679, 15137, 14449, 13623, 12665, 11585, 10394, 9102, 7723, 6270, 4756, 3196, 1606, 0]

/-- C[i], from the first quarter by C[32 - i] = -C[i], C[32 + i] = -C[i], C[64 - i] = C[i] (R116). -/
def cosTable (i : Nat) : Int :=
  let i := i % 64
  if i ≤ 16 then cosQuarter.getD i 0
  else if i ≤ 32 then -(cosQuarter.getD (32 - i) 0)
  else if i ≤ 48 then -(cosQuarter.getD (i - 32) 0)
  else cosQuarter.getD (64 - i) 0

/-- S[i] = C[(i + 48) mod 64] (R116). -/
def sinTable (i : Nat) : Int := cosTable (i + 48)

/-! ### Per-triple work (R113, R117) -/

/-- A detector takes the sample `x` of block sample index `n` (R113). -/
def Detector.step (h : Nat) (n : Nat) (x : Int) (d : Detector) : Detector :=
  if d.armed = true ∧ (h : Int) ≤ x then { armed := false, list := d.list ++ [n] }
  else if x ≤ -(h : Int) then { d with armed := true }
  else d

/-- One phase's accumulators take the sample `x` of index `n` (R117): entry k is order k + 1. -/
def PhaseAcc.step (n : Nat) (x : Int) (a : PhaseAcc) : PhaseAcc :=
  tabulate 31 fun k =>
    (a[k].1 + x * cosTable ((k.1 + 1) * n), a[k].2 + x * sinTable ((k.1 + 1) * n))

/-! ### Tests and powers of a completed block (R114, R115, R118 to R121) -/

/-- The intervals between consecutive entries of a list. -/
def intervals : List Nat → List Nat
  | a :: b :: rest => (b - a) :: intervals (b :: rest)
  | _ => []

/-- R114: fewer than 9 crossings, or an interval outside 62..66. -/
def offSync (a : List Nat) : Bool :=
  decide (a.length < 9) || (intervals a).any fun d => decide (d < 62) || decide (66 < d)

/-- The outcome of the order test for the A crossing at `n` (R115): none when it is not tested. -/
def orderOutcome (order : PhaseOrder) (b c : List Nat) (n : Nat) : Option Bool :=
  match b.find? (fun m => decide (n < m)), c.find? (fun m => decide (n < m)) with
  | none, none => none
  | some _, none => some (decide (order = .abc))
  | none, some _ => some (decide (order = .acb))
  | some x, some y =>
    if x < y then some (decide (order = .abc)) else if y < x then some (decide (order = .acb)) else some false

/-- R115: some tested A crossing has a next phase other than the expected one. -/
def orderFails (order : PhaseOrder) (a b c : List Nat) : Bool :=
  a.any fun n => orderOutcome order b c n = some false

/-- R118: the scaled accumulator, rounded to nearest, halves upward. -/
def scaled (v : Int) : Int := (v + 32768) / 65536

/-- R118: the power of one order. -/
def power (r : Int × Int) : Nat := (scaled r.1).natAbs ^ 2 + (scaled r.2).natAbs ^ 2

/-- The powers P_1..P_31 of a phase. -/
def powers (a : PhaseAcc) : List Nat := a.toList.map power

/-- P_1 of a phase. -/
def fundamental (a : PhaseAcc) : Nat := power a[0]

/-- S = P_2 + ... + P_31 (R120). -/
def harmonicSum (a : PhaseAcc) : Nat := ((powers a).drop 1).sum

/-- THD_q of a phase (R120). -/
def thdOf (a : PhaseAcc) : Nat := min 65535 (isqrt (harmonicSum a * 10 ^ 8 / fundamental a))

/-- A phase is evaluable: P_1 at or above P1_min and above 0 (R119). -/
def evaluable (l : Latch) (a : PhaseAcc) : Bool := decide (l.p1min ≤ fundamental a) && decide (0 < fundamental a)

/-- The verdict of R119: the first test that holds. -/
def gridVerdict (l : Latch) (acc : Vector PhaseAcc 3) (d : Vector Detector 3) : GridVerdict :=
  if offSync d[0].list then .offSync
  else if orderFails l.order d[0].list d[1].list d[2].list then .phaseOrder
  else if !acc.toList.any (evaluable l) then .noFundamental
  else .evaluated

/-- A power exceeds a limit at a fundamental: products compared exactly, equality exceeds, limit 0 never (R121). -/
def exceedsLimit (limit p p1 : Nat) : Bool := decide (0 < limit) && decide (limit ^ 2 * p1 ≤ p * 10 ^ 8)

/-- The orders 2..31 that exceed at one phase (R121). -/
def phaseOrders (l : Latch) (a : PhaseAcc) : List Nat :=
  ((List.finRange 30).filter fun k =>
    exceedsLimit l.limits[k] (power (a.get ⟨k.1 + 1, by omega⟩)) (fundamental a)).map fun k => k.1 + 2

/-- THD exceeds at one phase (R121). -/
def phaseThdExceeds (l : Latch) (a : PhaseAcc) : Bool := exceedsLimit l.lthd (harmonicSum a) (fundamental a)

/-- What an EVALUATED block gives over its evaluable phases (R120, R121). -/
def evaluation (l : Latch) (acc : Vector PhaseAcc 3) : GridEvaluation :=
  let ph := acc.toList.filter (evaluable l)
  let orders := ((List.finRange 30).map fun k => k.1 + 2).filter fun h => ph.any fun a => h ∈ phaseOrders l a
  let thd := ph.any (phaseThdExceeds l)
  { worstThd := (ph.map thdOf).foldl max 0, orders := orders, thdExceeds := thd,
    exceeds := !orders.isEmpty || thd }

/-- The block result of a completion (R122). -/
def blockResult (l : Latch) (acc : Vector PhaseAcc 3) (d : Vector Detector 3) (now : Nat) : GridResult :=
  let v := gridVerdict l acc d
  let gaps := intervals d[0].list
  { gen := l.gen
    time := now
    verdict := v
    crossings := d[0].list.length
    intervals := match gaps with
      | [] => none
      | g :: rest => some (rest.foldl min g, rest.foldl max g)
    phases := tabulate 3 fun p =>
      { p1 := fundamental acc[p], thd := if v = .evaluated ∧ evaluable l acc[p] = true then some (thdOf acc[p]) else none }
    evaluation := if v = .evaluated then some (evaluation l acc) else none }

/-! ### Sync condition and alarm (R123, R124) -/

/-- The sync condition after a verdict (R124). -/
def SyncCondition.after (c : SyncCondition) : GridVerdict → SyncCondition
  | .evaluated => .sound
  | .offSync => .offSync
  | .phaseOrder => .phaseOrder
  | .noFundamental => c

/-- A faulty sync condition: OFF_SYNC or PHASE_ORDER. -/
def SyncCondition.faulty : SyncCondition → Bool
  | .offSync | .phaseOrder => true
  | .none | .sound => false

/-- R124: the moves of the sync condition that queue a GRID_FAULT notice. -/
def faultReported (old new : SyncCondition) : Bool :=
  (!old.faulty && new.faulty) || (old.faulty && decide (new = .sound))

/-- The sync condition follows the verdict, with its notice (R124). -/
def syncUpdate (p : Fin 2) (v : GridVerdict) (gen : Nat) (s : State) : State :=
  let old := s.points[p].sync
  let new := old.after v
  let s := s.modPoint p fun x => { x with sync := new }
  if faultReported old new then
    offer { Offer.base .gridFault 2 old.code new.code gen with subject := .point p } s
  else s

/-- The GRID_ALARM notice of a change of alarm state (R123). -/
def gridAlarmNotice (p : Fin 2) (old new : GridAlarm) (value : NoticeValue) (gen : Nat) (s : State) : State :=
  offer { Offer.base .gridAlarm 1 old.code new.code gen with subject := .point p, value := value } s

/-- The alarm step of an EVALUATED block on the record (R123), with the current P and Q. -/
def GridPoint.alarmStep (e : GridEntry) (exceeds : Bool) (x : GridPoint) : GridPoint :=
  match x.alarm, exceeds with
  | .normal, true =>
    if e.persistence ≤ x.raiseCount + 1 then { x with alarm := .alarm, raiseCount := 0, clearCount := 0 }
    else { x with raiseCount := x.raiseCount + 1 }
  | .normal, false => { x with raiseCount := 0 }
  | .alarm, false =>
    if e.clear ≤ x.clearCount + 1 then { x with alarm := .normal, raiseCount := 0, clearCount := 0 }
    else { x with clearCount := x.clearCount + 1 }
  | .alarm, true => { x with clearCount := 0 }

/-- The alarm step of a completed block (R123): a block that is not EVALUATED leaves the counts. -/
def alarmUpdate (p : Fin 2) (r : GridResult) (s : State) : State :=
  match r.evaluation with
  | none => s
  | some v =>
    let old := s.points[p].alarm
    let s := s.modPoint p (GridPoint.alarmStep s.tables.grid[p] v.exceeds)
    if s.points[p].alarm = old then s else gridAlarmNotice p old s.points[p].alarm (.thd v.worstThd) r.gen s

/-! ### Blocks and runs (R109, R110, R112) -/

/-- The block in progress dropped: accumulators at 0, index 0, detectors disarmed with empty lists (R109). -/
def GridPoint.dropBlock (x : GridPoint) : GridPoint :=
  { x with index := 0, latch := none, acc := zeroAcc, detectors := Vector.replicate 3 Detector.init }

/-- The Grid Table values a block latches at its start, with the current generation (R110). -/
def State.latchFor (s : State) (p : Fin 2) : Latch :=
  let e := s.tables.grid[p]
  { hzc := e.hzc, order := e.order, p1min := e.p1min, lthd := e.lthd, limits := e.limits, gen := s.generation }

/-- A block starts: latched afresh, index and accumulators at 0, lists empty, armed flags carried (R110, R113). -/
def startBlock (p : Fin 2) (s : State) : State :=
  s.modPoint p fun x =>
    { x with index := 0, latch := some (s.latchFor p), acc := zeroAcc,
             detectors := tabulate 3 fun k => { x.detectors[k] with list := [] } }

/-- The point leaves its run, or stands, in an intake state without a run: block dropped, expectation absent,
timer stopped, mark removed (R107, R109, R111, R112). -/
def GridPoint.rest (st : Intake) (x : GridPoint) : GridPoint :=
  { x.dropBlock with intake := st, marked := false, expect := none, idleExpiry := none }

/-- A run or a block is discarded with a gap event: a point marked to suspend enters SUSPENDED (R112), any
other starts a new block (R109). -/
def discardBlock (p : Fin 2) (s : State) : State :=
  if s.points[p].marked then suspendCheck (s.modPoint p (GridPoint.rest .suspended))
  else startBlock p (s.modPoint p GridPoint.dropBlock)

/-- A block completes at a point, in the order of R125. -/
def completeBlock (p : Fin 2) (l : Latch) (s : State) : State :=
  let r := blockResult l s.points[p].acc s.points[p].detectors s.now
  let s := syncUpdate p r.verdict l.gen s
  let s := alarmUpdate p r s
  let s := if (r.evaluation.map GridEvaluation.exceeds) = some true then reportGrid p s else s
  let s := s.modPoint p fun x => { x with lastResult := some r }
  if s.points[p].marked then suspendCheck (s.modPoint p (GridPoint.rest .suspended)) else startBlock p s

/-- One triple of the three phases. -/
structure Triple where
  a : Int
  b : Int
  c : Int
deriving DecidableEq, Repr

def Triple.phase (x : Triple) (k : Fin 3) : Int := if k = 0 then x.a else if k = 1 then x.b else x.c

/-- A triple enters the block in progress at the current index (R110, R113, R117); a point whose run has ended
uses none (R112). -/
def pushTriple (p : Fin 2) (x : Triple) (s : State) : State :=
  if s.points[p].intake = .assembling then
    match s.points[p].latch with
    | none => s
    | some l =>
      let n := s.points[p].index
      let s := s.modPoint p fun q =>
        { q with index := n + 1,
                 acc := tabulate 3 fun k => PhaseAcc.step n (x.phase k) q.acc[k],
                 detectors := tabulate 3 fun k => (q.detectors[k]).step l.hzc n (x.phase k) }
      if 639 ≤ n then completeBlock p l s else s
  else s

/-- The triples of a GRID payload after sequence number and count. -/
def triplesOf : List Int → List Triple
  | a :: b :: c :: rest => ⟨a, b, c⟩ :: triplesOf rest
  | _ => []

/-! ### Intake (R108, R212) -/

/-- A GRID payload is well-formed: k in 1..32 and exactly 2 + 6 k bytes (R212). -/
def wellFormedGrid (payload : List Byte) : Bool :=
  decide (1 ≤ at8 payload 1) && decide (at8 payload 1 ≤ 32) && decide (payload.length = 2 + 6 * at8 payload 1)

/-- A well-formed frame is taken at an ASSEMBLING point (R108). -/
def takeTriples (p : Fin 2) (e : Fin 64) (payload : List Byte) (s : State) : State :=
  let s := countTaken e (s.modPoint p fun x => { x with expect := some (BitVec.ofNat 8 (at8 payload 0 + 1)) })
  (triplesOf (samplesOf (payload.drop 2))).foldl (fun s x => pushTriple p x s) s

/-- A frame with a sequence number handed to an ASSEMBLING point (R108, R109). At a point marked to suspend a gap event
ends the run, and the frame is then neither taken nor counted (DEDUCED, log 39). -/
def checkGrid (p : Fin 2) (e : Fin 64) (payload : List Byte) (s : State) : State :=
  let d := (BitVec.ofNat 8 (at8 payload 0) - (s.points[p].expect).getD 0).toNat
  if 128 ≤ d then s
  else if wellFormedGrid payload then
    if d = 0 then takeTriples p e payload s
    else
      let s := discardBlock p (countGap e s)
      if s.points[p].intake = .assembling then takeTriples p e payload s else s
  else
    let s := discardBlock p (countGap e s)
    if s.points[p].intake = .assembling then
      s.modPoint p fun x => { x with expect := some (BitVec.ofNat 8 (at8 payload 0 + 1)) }
    else s

/-- A GRID frame handed by entry `e` to point `p`, as one event (R108, R212). -/
def takeGrid (p : Fin 2) (e : Fin 64) (payload : List Byte) (s : State) : State :=
  let timer := some (s.now + Config.gridIdleMs)
  match s.points[p].intake with
  | .unbound | .suspended => s
  | .idle =>
    if wellFormedGrid payload then
      takeTriples p e payload
        (startBlock p (s.modPoint p fun x => { x.dropBlock with intake := .assembling, idleExpiry := timer }))
    else s
  | .assembling =>
    let s := s.modPoint p fun x => { x with idleExpiry := timer }
    if payload.length < 2 then s else checkGrid p e payload s

/-- A point's idle timer expires (R111). -/
def gridIdleExpires (p : Fin 2) (s : State) : State :=
  if s.points[p].intake = .assembling ∧ due s.points[p].idleExpiry s.now = true then
    suspendCheck (s.modPoint p (GridPoint.rest (if s.points[p].marked then .suspended else .idle)))
  else s

/-! ### Apply, Suspend, Resume, Restart PROCESSING (R106, R107, R112, R130) -/

/-- The point is bound: a valid Grid Table entry and a source entry (R107). -/
def Tables.pointBound (t : Tables) (p : Fin 2) : Bool :=
  t.grid[p].valid && (t.sourceOf (.gridPoint p)).isSome

/-- The Grid Table entry of a point takes effect (R106). -/
def applyGridEntry (old : GridEntry) (p : Fin 2) (s : State) : State :=
  let new := s.tables.grid[p]
  if old.valid && !new.valid then
    let was := s.points[p].alarm
    let s := s.modPoint p fun x => { x with alarm := .normal, raiseCount := 0, clearCount := 0, sync := .none }
    if was = .alarm then gridAlarmNotice p .alarm .normal .absent s.generation s else s
  else if !old.valid && new.valid then
    s.modPoint p fun x => { x with alarm := .normal, raiseCount := 0, clearCount := 0 }
  else if old.valid && new.valid && (decide (old.persistence ≠ new.persistence) || decide (old.clear ≠ new.clear)) then
    s.modPoint p fun x => { x with raiseCount := 0, clearCount := 0 }
  else s

/-- The point's binding and source entry compared with those before the Apply (R107, R112). A block whose source changes
is discarded and its point enters IDLE, marked to suspend or not; a mark goes with the run (DEDUCED, log 31). -/
def applyGridBinding (old : Tables) (p : Fin 2) (s : State) : State :=
  let feed := StreamFeed.gridPoint p
  let was := old.pointBound p
  let is := s.tables.pointBound p
  let sameSource :=
    match old.sourceOf feed, s.tables.sourceOf feed with
    | some a, some b => decide (a = b) && decide (old.streams[a] = s.tables.streams[b])
    | _, _ => false
  if was && !is then suspendCheck (s.modPoint p (GridPoint.rest .unbound))
  else if !was && is then
    s.modPoint p (GridPoint.rest (if s.analysis = .active then .idle else .suspended))
  else if was && is && !sameSource then
    match s.points[p].intake with
    | .assembling => suspendCheck (s.modPoint p (GridPoint.rest .idle))
    | .unbound | .idle | .suspended => s.modPoint p fun x => { x with expect := none }
  else s

/-- A point answers a Suspend (R112). -/
def suspendPoint (p : Fin 2) (s : State) : State :=
  match s.points[p].intake with
  | .idle => s.modPoint p (GridPoint.rest .suspended)
  | .assembling => s.modPoint p fun x => { x with marked := true }
  | .unbound | .suspended => s

/-- A point answers a Resume (R112). -/
def resumePoint (p : Fin 2) (s : State) : State :=
  match s.points[p].intake with
  | .suspended => s.modPoint p (GridPoint.rest .idle)
  | .assembling => s.modPoint p fun x => { x with marked := false }
  | .unbound | .idle => s

/-- Restart PROCESSING at a point (R130). -/
def restartPoint (p : Fin 2) (s : State) : State :=
  s.modPoint p fun x =>
    { x.rest (if s.tables.pointBound p then .idle else .unbound) with
      alarm := .normal, raiseCount := 0, clearCount := 0, sync := .none, lastResult := none }

end Sys2Proof.Machine
end

