-- ==== Sys2Proof/Machine/Clock.lean ====
section
/-! DEFINITION. The clock: TIME frames, holdover, the wrap of the day and the free-running counter (sections 9.6, R213). -/

namespace Sys2Proof.Machine

/-- The day and ms of day of a TIME payload that is taken: 6 bytes and ms of day in range (R192, R213). -/
def timeOf (payload : List Byte) : Option (Nat × Nat) :=
  if payload.length = 6 ∧ at32 payload 2 < Config.dayMs then some (at16 payload 0, at32 payload 2) else none

/-- A LINK notice of the clock between two sync states or to STEPPED_BACK (R192). -/
def clockNotice (old new : Nat) (s : State) : State := linkNotice .nothing old new s

/-- Taking a TIME frame that carries day `d` and ms of day `m` (R192): the clock is set and LOCKED, its timer
restarts, and the notices and events follow in the order of the table. -/
def takeTime (d m : Nat) (s : State) : State :=
  let old := s.clock
  let s := { s with clock := { old with
    day := d, ms := m, sync := .locked, holdoverExpiry := some (s.now + Config.holdoverMs), lastTime := some s.now } }
  match old.sync with
  | .unset => clockSet (clockNotice SyncState.unset.code SyncState.locked.code s)
  | .locked =>
    if old.day < d then dayChange s
    else if d < old.day then clockNotice SyncState.locked.code steppedBack s
    else s
  | .holdover =>
    let s :=
      if old.day < d then dayChange s
      else if d < old.day then clockNotice SyncState.holdover.code steppedBack s
      else s
    clockNotice SyncState.holdover.code SyncState.locked.code s

/-- The holdover timer expires in LOCKED (R193). -/
def holdoverExpires (s : State) : State :=
  if s.clock.sync = .locked ∧ due s.clock.holdoverExpiry s.now = true then
    clockNotice SyncState.locked.code SyncState.holdover.code
      { s with clock := { s.clock with sync := .holdover, holdoverExpiry := none } }
  else s

/-- The counter after one more millisecond; what follows its end is free (R194, log 10). -/
def nextCounter (n : Nat) : Nat := if n < Config.counterEnd then n + 1 else Config.counterAfterEnd.toNat

/-- A clock runs in LOCKED and HOLDOVER (R191). -/
def Clock.runs (c : Clock) : Bool := decide (c.sync ≠ .unset)

/-- The next millisecond brings the ms of day of a running clock to 86,400,000 (R191). -/
def Clock.dayEnds (c : Clock) : Bool := c.runs && decide (Config.dayMs ≤ c.ms + 1)

/-- One millisecond of the counter, with which a running clock advances; at 86,400,000 the ms of day becomes 0 and the
day advances, 65535 to 0 (R191, R194). -/
def Clock.advance (c : Clock) : Clock :=
  { c with
    counter := nextCounter c.counter
    ms := if c.dayEnds then 0 else if c.runs then c.ms + 1 else c.ms
    day := if c.dayEnds then (c.day + 1) % 65536 else c.day }

/-- One millisecond passes at the clock; where the day ends with it, a day-change event is sent (R191). -/
def passMillisecond (s : State) : State :=
  let t := { s with clock := s.clock.advance }
  if s.clock.dayEnds then dayChange t else t

/-- The minute event: the counter stands at a multiple of 60,000 above 0, and this multiple's event has not been
taken yet (R194, R137; log 38). -/
def minutePasses (s : State) : State :=
  if 0 < s.now ∧ s.now % Config.minuteMs = 0 ∧ s.minuteTaken ≠ s.now then reportMinute { s with minuteTaken := s.now }
  else s

/-- The ms of day wraps: the millisecond passes that ends the day (R191; due at no other time, log 3). A minute event
left untaken at the counter's value is taken first, so that none is passed over (R194). -/
def dayWraps (s : State) : State := if s.clock.dayEnds then passMillisecond (minutePasses s) else s

end Sys2Proof.Machine
end

