-- ==== Sys2Proof/Machine/Ports.lean ====
section
/-! DEFINITION. The link ports: health, forward buffers, egress arbiters, the frames the part begins and their
completion (chapter 9, section 11.3). -/

namespace Sys2Proof.Machine

/-! ### Port health (R189) -/

/-- A frame received on a port moves its health counter; a change of health state queues a LINK notice (R189). -/
def portHealth (p : Port) (good : Bool) (s : State) : State :=
  let old := (s.link.port p).health
  let new := healthStep good old
  let s := s.modPort p fun x => { x with health := new }
  if healthOf new = healthOf old then s else linkNotice (.port p) (healthOf old).code (healthOf new).code s

/-! ### Forward buffers (R186) -/

/-- The other port: the one a frame received on `p` leaves by. -/
def otherPort : Port → Port
  | .field => .station
  | .station => .field

/-- A frame to be forwarded joins the tail of the buffer of the port it leaves by, or is dropped with
FORWARD_OVERFLOW (R186). -/
def forward (p : Port) (bytes : List Byte) (s : State) : State :=
  if (s.link.port p).buffer.length < Config.forwardSize then
    s.modPort p fun x => { x with buffer := x.buffer ++ [bytes] }
  else s.setForwardOverflow

/-! ### Own frames (R13, R176, R197, section 11.3) -/

/-- The payload of an ADVISORY frame (section 11.3). -/
def advisoryPayload (t : Fin 8) (v : Curtail) (k : Stamp) : List Byte :=
  u8 t.1 ++ u8 v.code ++ u16 k.day ++ u32 k.ms ++ u8 k.sync.code

/-- The subject kind and index of a notice (section 11.3). -/
def Subject.bytes : Subject → List Byte
  | .nothing => u8 0 ++ u8 0
  | .inst i => u8 1 ++ u8 i.1
  | .point p => u8 2 ++ u8 p.1
  | .entry e => u8 3 ++ u8 e.1
  | .slot k => u8 4 ++ u8 k.1
  | .port p => u8 5 ++ u8 (portCode p)

/-- The value kind and value of a notice (section 11.3). -/
def NoticeValue.bytes : NoticeValue → List Byte
  | .absent => u8 0 ++ u32 0
  | .net v => u8 1 ++ i32 v
  | .thd v => u8 2 ++ i32 v
  | .usage v => u8 3 ++ u32 v
  | .crossings v => u8 4 ++ i32 v
  | .deficit v => u8 5 ++ i32 v
  | .generation v => u8 6 ++ i32 v

/-- The 24 bytes of a notice record, in a NOTICE frame and in a Fetch reply (R173, section 11.3, R214). -/
def Notice.payload (n : Notice) : List Byte :=
  u8 n.offer.cls.code ++ u8 n.offer.priority ++ u16 n.number ++ indexOrNone (n.offer.turbine.map Fin.val) ++
    n.offer.subject.bytes ++ [n.offer.old, n.offer.new] ++ n.offer.value.bytes ++ u16 n.stamp.day ++ u32 n.stamp.ms ++
    u8 n.stamp.sync.code ++ u16 n.offer.gen ++
    u8 ((if n.offer.accessHold then 1 else 0) + (if n.offer.noBaseline then 2 else 0))

/-- The payload of a MGMT_REPLY frame (section 11.3). -/
def Reply.payload (r : Reply) : List Byte :=
  [r.request.code] ++ u16 r.request.rq.tag.toNat ++ u8 r.answer.status.code ++
    u8 ((r.answer.reason.map RefusalReason.code).getD 0) ++ u16 r.stamp.day ++ u32 r.stamp.ms ++ u8 r.stamp.sync.code ++
    r.answer.results

/-! ### The egress arbiters (R187, R188) -/

/-- The value and pending-since time of a turbine's advisory in PENDING. -/
def Advisory.waiting : Advisory → Option (Curtail × Nat)
  | .pending v since => some (v, since)
  | .quiet | .sending _ | .sendingPending _ _ _ | .holding _ => none

/-- The turbine the field arbiter takes (R15, R188): the earliest pending-since time, the lower number between
equal times. -/
def State.nextAdvisory (s : State) : Option (Fin 8 × Curtail) :=
  ((List.finRange 8).foldl
    (fun (best : Option (Fin 8 × Curtail × Nat)) t =>
      match s.turbines[t].advisory.waiting, best with
      | none, _ => best
      | some (v, since), none => some (t, v, since)
      | some (v, since), some (_, _, least) => if since < least then some (t, v, since) else best) none).map
    fun b => (b.1, b.2.1)

/-- An own frame waits for the port (section 9.3); a part without a node address begins none (R188). -/
def State.ownWaiting (s : State) : Port → Bool
  | .station =>
    decide (s.node ≠ Config.noNode) &&
      (s.mgmt.reply.isSome || (decide (s.tables.global.mode = .send) && s.notices.head.isSome))
  | .field => decide (s.node ≠ Config.noNode) && s.nextAdvisory.isSome

/-- The station arbiter begins an own frame: the held reply, or else the head of the notice queue (R188). -/
def beginStationOwn (s : State) : State :=
  match s.mgmt.reply with
  | some r =>
    s.modPort .station fun x =>
      { x with sending := some (.reply (ownFrame r.request.rq.source s.node .mgmtReply r.payload)) }
  | none =>
    match s.notices.head with
    | some n =>
      { s with notices := { s.notices with sending := some n.number } }.modPort .station fun x =>
        { x with sending := some (.notice (ownFrame s.tables.global.dest s.node .notice n.payload)) }
    | none => s

/-- The field arbiter begins an own frame: the advisory of the turbine it takes moves to SENDING (R13, R15). -/
def beginFieldOwn (s : State) : State :=
  match s.nextAdvisory with
  | some (t, v) =>
    (s.modTurbine t fun x => { x with advisory := .sending v }).modPort .field fun x =>
      { x with sending := some (.advisory t
          (ownFrame s.tables.turbines[t].controller s.node .advisory (advisoryPayload t v s.stamp))) }
  | none => s

def beginOwn (p : Port) (s : State) : State :=
  match p with
  | .station => beginStationOwn s
  | .field => beginFieldOwn s

/-- The forward buffer's head leaves the buffer as its transmission begins (R186), the run count becoming `run`. -/
def beginForward (p : Port) (run : Nat) (s : State) : State :=
  s.modPort p fun x =>
    match x.buffer with
    | [] => x
    | f :: rest => { x with buffer := rest, sending := some (.forwarded f), runCount := run }

/-- The choice of a free port's arbiter, by the table of R187. -/
def arbiter (p : Port) (s : State) : State :=
  let x := s.link.port p
  if x.sending.isSome then s
  else if s.ownWaiting p then
    if x.buffer.isEmpty = false ∧ x.runCount < Config.runLimit then beginForward p (x.runCount + 1) s
    else beginOwn p (s.modPort p fun x => { x with runCount := 0 })
  else beginForward p 0 s

/-- Both arbiters look at their ports when a command's work is done (R187, log 6). -/
def arbitrate (s : State) : State := arbiter .station (arbiter .field s)

/-- The form of every meaning: while the reset input is held low nothing acts (R216, log 8); otherwise the
command's work is done as one whole step and the arbiters choose. -/
def live (f : State → State) (s : State) : Host.Outcome State Fault Refusal :=
  .next (if s.resetLow then s else arbitrate (f s))

/-- A port is free again. -/
def freePort (p : Port) (s : State) : State := s.modPort p fun x => { x with sending := none }

/-! ### Completions (R15, R176, R187) -/

/-- A forwarded frame completes on a port (R187). -/
def completeForwarded (p : Port) (s : State) : State :=
  match (s.link.port p).sending with
  | some (.forwarded _) => freePort p s
  | _ => s

/-- A NOTICE frame completes: the notice leaves the queue as sent (R176). -/
def completeNotice (s : State) : State :=
  match s.link.station.sending with
  | some (.notice _) =>
    freePort .station
      { s with notices := { s.notices with
          queue := s.notices.queue.filter fun x => s.notices.sending ≠ some x.number, sending := none } }
  | _ => s

/-- An ADVISORY frame completes: its turbine's mechanism moves (R15). -/
def completeAdvisory (s : State) : State :=
  match s.link.field.sending with
  | some (.advisory t _) =>
    freePort .field (s.modTurbine t fun x =>
      { x with advisory := x.advisory.complete s.tables.turbines[t].inService x.curtail s.now })
  | _ => s

end Sys2Proof.Machine
end

