-- ==== Sys2Proof/Machine/Records.lean ====
section
/-! DEFINITION. Entry records and result records as the link carries them (R214, R215), each in the order in
which the owning rule lists its items. Where a rule lists items without a layout, the layout is DEDUCED (log 14
to 16). -/

namespace Sys2Proof.Machine

/-! ### Entry records (R215) -/

/-- Role and target of a Stream Table entry: 0 VIB_CHANNEL, 1 GRID_POINT, 2 TURBINE_STATUS, 3 IGNORE. -/
def StreamFeed.bytes : StreamFeed → List Byte
  | .vibChannel c => u8 0 ++ u8 c.1
  | .gridPoint p => u8 1 ++ u8 p.1
  | .turbineStatus t => u8 2 ++ u8 t.1
  | .ignore x => [3, x]

/-- A Stream Table entry without its running counts: 7 bytes. -/
def StreamEntry.bytes (e : StreamEntry) : List Byte :=
  yesNo e.valid ++ u8 e.nodeMatch.toNat ++ u8 e.nodeMask.toNat ++ [e.tagMatch, e.tagMask] ++ e.feed.bytes

/-- A Stream Table entry record: each count after a presence byte (R215). -/
def streamRecord (e : StreamEntry) (k : StreamCounts) : List Byte :=
  e.bytes ++ u8 1 ++ u16 k.framesTaken ++ u8 1 ++ u16 k.gapEvents

def ChannelEntry.bytes (e : ChannelEntry) : List Byte :=
  u8 e.turbine.1 ++ u8 e.decimation.code ++ u16 e.window ++ u16 e.settle ++ u8 e.frameSamples ++ u16 e.gapTolerance ++
    e.bindings.toList.flatMap (fun b => indexOrNone (b.map Fin.val)) ++ yesNo e.captureOnTrigger

def Biquad.bytes (q : Biquad) : List Byte := yesNo q.bypass ++ i16 q.b0 ++ i16 q.b1 ++ i16 q.b2 ++ i16 q.a1 ++ i16 q.a2

def Thresholds.bytes (t : Thresholds) : List Byte := u32 t.t1 ++ u32 t.t2 ++ u32 t.t3

def BandEntry.bytes (e : BandEntry) : List Byte :=
  yesNo e.valid ++ u8 e.role.code ++ e.sections.toList.flatMap Biquad.bytes ++ u16 e.clip ++ u32 e.floor ++
    e.normal.bytes ++ e.ice.bytes ++ yesNo e.iceRelaxed ++ u16 e.speedMin ++ u16 e.speedMax ++ u8 e.persistence ++
    u8 e.clear ++ u16 e.hysteresis ++ yesNo e.captureOnAlarm

def TurbineEntry.bytes (e : TurbineEntry) : List Byte :=
  yesNo e.valid ++ indexOrNone (e.gridPoint.map Fin.val) ++ u8 e.controller.toNat ++ yesNo e.advisoryEnable ++
    u16 e.noticeMask.toNat

def IceEntry.bytes (e : IceEntry) : List Byte :=
  yesNo e.valid ++ byteList 3 (e.track.map Fin.val) ++ i16 e.ticeMax ++ u8 e.rhMin ++ u16 e.dmin16 ++ u8 e.nsuspect ++
    u8 e.niced ++ i16 e.tthaw ++ u8 e.nthaw ++ u8 e.nclear ++ i16 e.tlearn ++ u16 e.rotorMin ++ u8 e.level.code ++
    e.load.toList.flatMap (optional 4 u32)

def GridEntry.bytes (e : GridEntry) : List Byte :=
  yesNo e.valid ++ u16 e.hzc ++ u8 e.order.code ++ u48 e.p1min ++ u16 e.lthd ++ e.limits.toList.flatMap u16 ++
    u8 e.persistence ++ u8 e.clear

/-- A usage source: choice byte, VIB list, w0..w3, grid point, one weight; the fields the source does not use are 0
(R215). -/
def UsageSource.bytes : UsageSource → List Byte
  | .none => u8 0 ++ byteList 4 [] ++ [0, 0, 0, 0, 0, 0]
  | .vib ids w => u8 1 ++ byteList 4 (ids.map Fin.val) ++ w.toList.flatMap u8 ++ [0, 0]
  | .run w => u8 2 ++ byteList 4 [] ++ [0, 0, 0, 0, 0] ++ u8 w
  | .grid p w => u8 3 ++ byteList 4 [] ++ [0, 0, 0, 0] ++ u8 p.1 ++ u8 w
  | .ice w => u8 4 ++ byteList 4 [] ++ [0, 0, 0, 0, 0] ++ u8 w

/-- A staged Maintenance Table entry record: the running fields with a presence byte of 0 (R131, R215). -/
def MaintLoad.bytes (e : MaintLoad) : List Byte :=
  yesNo e.valid ++ u8 e.turbine.1 ++ u8 e.component.code ++ u8 e.task.code ++ u16 e.interval ++ u16 e.dueDay ++
    optional 2 u16 none ++ u16 e.lead ++ u32 e.usageLimit ++ optional 4 u32 e.usage ++ e.source.bytes ++
    optional 2 u16 e.lastDone ++ optional 1 u8 none ++ optional 1 u8 none

/-- A current Maintenance Table entry record: the running fields with a presence byte of 1 (R215). -/
def MaintItem.bytes (e : MaintItem) : List Byte :=
  yesNo e.valid ++ u8 e.turbine.1 ++ u8 e.component.code ++ u8 e.task.code ++ u16 e.interval ++ u16 e.dueDay ++
    optional 2 u16 (some e.baseDue) ++ u16 e.lead ++ u32 e.usageLimit ++ optional 4 u32 (some e.usage) ++
    e.source.bytes ++ optional 2 u16 e.lastDone ++ optional 1 u8 (some e.deferrals) ++
    optional 1 u8 (some e.state.code)

def GlobalRecord.bytes (e : GlobalRecord) : List Byte :=
  u8 e.mode.code ++ u8 e.dest.toNat ++ u16 e.mask.toNat ++ u16 e.graceDays

/-! ### Result records (R18, R76, R102, R127, R154) -/

/-- A turbine record (R18). -/
def State.turbineRecord (s : State) (t : Fin 8) : List Byte :=
  let x := s.turbines[t]
  yesNo s.tables.turbines[t].valid ++ u8 x.freshness.code ++ u8 x.status.op.code ++ u16 x.status.rotor ++
    u16 x.status.shaft ++ i16 x.status.ambient ++ u8 x.status.humidity ++ u16 x.status.power ++ u48 x.lastStatus ++
    u8 x.curtail.code ++ u8 x.worst ++ u8 x.advisory.code

/-- Window speed min and max, absent together (R64), each with a presence byte of its own (DESIGN CHOICE, log 35). -/
def speedBytes (v : Option (Nat × Nat)) : List Byte :=
  optional 2 u16 (v.map Prod.fst) ++ optional 2 u16 (v.map Prod.snd)

/-- A verdict, and its reason as an item of its own that only UNEVALUATED has (R64; DEDUCED, log 44). -/
def Verdict.bytes (v : Verdict) : List Byte :=
  u8 v.code ++ optional 1 (fun r : Reason => u8 r.code) (match v with
    | .unevaluated r => some r
    | .void | .classed => none)

/-- The last result of an instance (R64): 39 bytes. Class and threshold set, absent together, share one presence byte,
and each of the four marks is one yes or no (DESIGN CHOICE, log 35). -/
def InstResult.bytes (r : InstResult) : List Byte :=
  u16 r.gen ++ u48 r.closeTime ++ r.verdict.bytes ++ u32 r.ms ++ u32 r.net ++
    optional 2 (fun c : Nat × ThresholdSet => u8 c.1 ++ u8 c.2.code) r.cls ++ optional 2 u16 r.crossings ++
    yesNo r.marks.gapped ++ yesNo r.marks.clipped ++ yesNo r.marks.saturated ++ yesNo r.marks.disturbed ++
    u16 r.clipCount ++ u16 r.satCount ++ speedBytes r.speed

/-- The current window of an instance (R76): 14 bytes, the window flags being fresh-throughout and
producing-throughout (R8), both cleared where the instance has no window. -/
def windowBytes (x : Inst) : List Byte :=
  u48 x.sumSq ++ u16 x.clipCount ++ u16 x.satCount ++ u16 x.crossings ++ yesNo (x.window.any WindowContext.fresh) ++
    yesNo (x.window.any WindowContext.producing)

/-- The alarm record of an instance (R76): 8 bytes, active 0 or dormant 1 (R49) before its fields. The whole is one
item that may be absent (R215). -/
def State.alarmBytes (s : State) (i : Fin 96) : List Byte :=
  let a := s.insts[i].alarm
  u8 (if s.alarmActive i then 0 else 1) ++ u8 a.level ++ u8 a.raiseCount ++ optional 1 u8 a.raiseLevel ++
    u8 a.clearCount ++ optional 1 u8 a.clearLevel

/-- An instance record (R76): the alarm record absent while the instance has not been bound since reset, the current
window present for every instance of a RUNNING channel, bound or not (DEDUCED, log 34). Where no band is bound, the band
index is FFh and the role, an item of its own, is absent (DEDUCED, log 44). -/
def State.instRecord (s : State) (i : Fin 96) : List Byte :=
  let x := s.insts[i]
  let ch := s.channels[instChannel i]
  let b := s.bandOf i
  yesNo b.isSome ++ indexOrNone (ch.config.entry.bindings[instPos i].map Fin.val) ++
    optional 1 (fun b : BandEntry => u8 b.role.code) b ++ u16 ch.gen ++
    optional 8 s.alarmBytes (if x.boundSinceReset then some i else none) ++ optional 39 InstResult.bytes x.lastResult ++
    optional 14 windowBytes (if ch.state = .running then some x else none)

/-- An ice record (R102). The n of LEARNING is an item of its own behind the status code, absent in the other statuses
(DEDUCED, log 44). -/
def State.iceRecord (s : State) (t : Fin 8) : List Byte :=
  let e := s.tables.ice[t]
  let r := s.ice[t]
  yesNo e.valid ++ u8 r.state.code ++ u8 r.evidence ++ u8 r.clear ++ u8 r.thaw ++ u8 s.turbines[t].curtail.code ++
    (List.finRange 3).flatMap fun b =>
      indexOrNone ((e.track[b.1]?).map Fin.val) ++ u32 r.blades[b].b16 ++ u8 r.blades[b].status.code ++
        optional 1 u8 (match r.blades[b].status with
          | .learning n => some n
          | .none | .valid | .loaded => none) ++ optional 2 u16 r.blades[b].lastC

/-- What only an EVALUATED block gives (R122): worst THD_q, exceeding orders, THD exceedance, exceeding. The set of
orders stands as a list of up to 30 orders in increasing order, the THD exceedance as a presence byte and a yes or no
(DESIGN CHOICE, log 35). -/
def GridEvaluation.bytes (v : Option GridEvaluation) : List Byte :=
  optional 2 u16 (v.map GridEvaluation.worstThd) ++ optional 31 (byteList 30) (v.map GridEvaluation.orders) ++
    optional 1 yesNo (v.map GridEvaluation.thdExceeds) ++ optional 1 yesNo (v.map GridEvaluation.exceeds)

/-- The last result of a point (R122): 85 bytes. Least and greatest interval, absent together, share one presence
byte (DESIGN CHOICE, log 35). -/
def GridResult.bytes (r : GridResult) : List Byte :=
  u16 r.gen ++ u48 r.time ++ u8 r.verdict.code ++ u16 r.crossings ++
    optional 4 (fun i : Nat × Nat => u16 i.1 ++ u16 i.2) r.intervals ++
    r.phases.toList.flatMap (fun p => u48 p.p1 ++ yesNo p.thd.isSome ++ optional 2 u16 p.thd) ++
    GridEvaluation.bytes r.evaluation

/-- A grid point record (R127). -/
def State.gridRecord (s : State) (p : Fin 2) : List Byte :=
  let x := s.points[p]
  yesNo s.tables.grid[p].valid ++ u8 x.intake.code ++ u8 x.alarm.code ++ u8 x.raiseCount ++ u8 x.clearCount ++
    u8 x.sync.code ++ optional 85 GridResult.bytes x.lastResult

/-- A date or usage part: IDLE 0, SOON 1, DUE 2, OVERDUE 3, the order of R143 (DESIGN CHOICE, log 36). -/
def partCode (m : MaintState) : Nat := m.code - 1

/-- A maintenance record (R154). The two parts of an entry that is not valid are formed as those of a valid one
(DESIGN CHOICE, log 36). -/
def State.maintRecord (s : State) (n : Fin 96) : List Byte :=
  let e := s.items[n]
  e.bytes ++ u8 (partCode (datePart s.scheduleDay e.dueDay e.lead s.tables.global.graceDays)) ++
    u8 (partCode (usagePart e.usage e.usageLimit)) ++ yesNo s.staged.marks[n]

/-! ### Read status (R43, R128, R167, R181, R195, R206) -/

/-- A channel's status items (R43). -/
def State.channelStatus (s : State) (c : Fin 24) : List Byte :=
  let ch := s.channels[c]
  u8 ch.state.code ++ u16 ch.gen ++ yesNo (s.channelPending c) ++ yesNo ch.marked ++ u16 ch.ring.length ++
    u16 (match ch.state with
      | .settling => ch.settleProgress
      | .running => ch.windowProgress
      | .unbound | .idle | .suspended => 0) ++
    optional 1 (fun b : Byte => [b]) ch.expect

/-- A point's status items (R128). -/
def State.pointStatus (s : State) (p : Fin 2) : List Byte :=
  let x := s.points[p]
  u8 x.intake.code ++ u16 x.index ++ optional 1 (fun b : Byte => [b]) x.expect ++ yesNo x.marked ++
    optional 2 u16 (x.latch.map Latch.gen)

/-- A slot's status items (R167). The five that a FREE slot does not have share one presence byte (DESIGN CHOICE,
log 35). -/
def Slot.status (x : Slot) : List Byte :=
  u8 x.state.code ++ optional 7 (fun x : Slot => u8 x.channel.1 ++ u8 x.trigger.code ++ u16 x.pre ++ u16 x.post ++
    yesNo x.truncated) (if x.state = .free then none else some x)

/-- How many queued notices have a priority. -/
def NoticeQueue.countOf (q : NoticeQueue) (k : Nat) : Nat := (q.queue.filter fun n => n.offer.priority = k).length

/-- The notice queue's status items (R181). -/
def State.noticeStatus (s : State) : List Byte :=
  u8 s.notices.queue.length ++ (List.range 4).flatMap (fun k => u8 (s.notices.countOf k)) ++
    u8 s.tables.global.mode.code ++ u16 s.notices.next ++ optional 2 u16 s.notices.sending

/-- A port's status items (R195). -/
def PortState.status (x : PortState) : List Byte :=
  u8 x.health ++ u8 (healthOf x.health).code ++ u8 x.buffer.length ++ u8 x.runCount

/-- The port and clock items (R195), the field port's before the station port's (DEDUCED, log 15). -/
def State.linkStatus (s : State) : List Byte :=
  s.link.field.status ++ s.link.station.status ++ u16 s.clock.day ++ u32 s.clock.ms ++ u8 s.clock.sync.code ++
    u48 s.clock.counter ++ optional 6 u48 s.clock.lastTime ++ u8 s.node.toNat

/-- How many channels are pending. -/
def State.pendingCount (s : State) : Nat := ((List.finRange 24).filter s.channelPending).length

/-- The management unit's items, the error flags as one byte (R206, R214). -/
def State.mgmtStatus (s : State) : List Byte :=
  u8 s.analysis.code ++ u16 s.generation ++ yesNo s.landing ++ u8 s.pendingCount ++ u8 s.mgmt.queue.length ++
    u8 s.errors.bits

/-- The results of Read status (R206). -/
def State.statusRecord (s : State) : List Byte :=
  (List.finRange 24).flatMap s.channelStatus ++ (List.finRange 2).flatMap s.pointStatus ++
    s.slots.toList.flatMap Slot.status ++ s.noticeStatus ++ s.linkStatus ++ optional 2 u16 s.scheduleDay ++ s.mgmtStatus

/-! ### Captures (R165) -/

/-- The descriptor of a slot (R165). -/
def Slot.descriptor (x : Slot) : List Byte :=
  u8 x.channel.1 ++ u8 x.turbine.1 ++ u8 x.trigger.code ++ indexOrNone (x.origin.map Fin.val) ++ u16 x.stamp.day ++
    u32 x.stamp.ms ++ u8 x.stamp.sync.code ++ u48 x.counter ++ u8 x.decimation.code ++ u16 x.gen ++ u16 x.pre ++
    u16 x.post ++ yesNo x.truncated ++ u8 x.blocks

/-- The results of Read capture (R165, R214): the descriptor, followed at once by the block's samples. The block
number, which R165 asks for and R214 does not place, stands ahead of the descriptor (DEDUCED, log 37). -/
def Slot.blockRecord (x : Slot) (b : Nat) : List Byte := u8 b ++ x.descriptor ++ (x.block b).flatMap i16

end Sys2Proof.Machine
end

