-- ==== Sys2Proof/Machine/Staging.lean ====
section
/-! DEFINITION. The staging rule of each table on an entry record (R1, R21, R26, R46, R79, R105, R131, R180, R215). -/

namespace Sys2Proof.Machine

/-- The outcome of a staging rule: refused with a status, or stored, perhaps adjusted. -/
inductive Staging (α : Type) where
  | refused (status : ReplyStatus)
  | stored (entry : α) (adjusted : Bool)
deriving DecidableEq, Repr

/-- A number below `m` as an index. -/
def index? (m n : Nat) : Option (Fin m) := if h : n < m then some ⟨n, h⟩ else none

/-- A one-byte index that may be none: FFh, or an index below `m`; any other code names nothing. -/
def indexOrNone? (m n : Nat) : Option (Option (Fin m)) :=
  if n = 255 then some none else (index? m n).map some

/-- A yes-or-no byte; above 1 it names nothing (R215). -/
def bool? (n : Nat) : Option Bool := if n = 0 then some false else if n = 1 then some true else none

/-- Instance ids, each below 96, no id twice. -/
def ids? : List Nat → Option (List (Fin 96))
  | [] => some []
  | n :: rest =>
    match index? 96 n, ids? rest with
    | some i, some l => if i ∈ l then none else some (i :: l)
    | _, _ => none

/-- A list of 1..m instance ids from its count and slots (R79, R131). The slots after the count are not read (DEDUCED,
log 47). -/
def idList? (m count : Nat) (slots : List Nat) : Option (List (Fin 96)) :=
  if 1 ≤ count ∧ count ≤ m then ids? (slots.take count) else none

/-- An optional number behind a presence byte at offset `k`; a presence byte above 1 names nothing (log 12),
and the bytes of an absent item are not read (DEDUCED, log 47). -/
def optional? (bs : List Byte) (k : Nat) (v : Nat) : Option (Option Nat) :=
  (bool? (at8 bs k)).map fun p => if p then some v else none

/-! ### Sizes of entry records (R215) -/

def streamSize : Nat := 13
def channelSize : Nat := 14
def bandSize : Nat := 86
def turbineSize : Nat := 6
def iceSize : Nat := 36
def gridSize : Nat := 74
def maintSize : Nat := 41
def globalSize : Nat := 6

/-! ### The staging rules -/

/-- Role and target of a Stream Table record (R21). -/
def feedOf (role : Nat) (target : Byte) : Option StreamFeed :=
  if role = 0 then (index? 24 target.toNat).map .vibChannel
  else if role = 1 then (index? 2 target.toNat).map .gridPoint
  else if role = 2 then (index? 8 target.toNat).map .turbineStatus
  else if role = 3 then some (.ignore target)
  else none

/-- R21. A value given for a running count is refused with READ_ONLY before anything else is looked at (log 13); the bytes
of an absent count are not read (DEDUCED, log 47). -/
def stageStream (bs : List Byte) : Staging StreamEntry :=
  if at8 bs 7 = 1 ∨ at8 bs 10 = 1 then .refused .readOnly
  else
    match bool? (at8 bs 0), bool? (at8 bs 7), bool? (at8 bs 10), feedOf (at8 bs 5) (bs.getD 6 0) with
    | some valid, some _, some _, some feed =>
      .stored
        { valid := valid, nodeMatch := BitVec.ofNat 6 (at8 bs 1), nodeMask := BitVec.ofNat 6 (at8 bs 2),
          tagMatch := bs.getD 3 0, tagMask := bs.getD 4 0, feed := feed }
        (decide (63 < at8 bs 1) || decide (63 < at8 bs 2))
    | _, _, _, _ => .refused .badValue

/-- R26. -/
def stageChannel (bs : List Byte) : Staging ChannelEntry :=
  let n := clampNat 256 16384 (at16 bs 2 / 64 * 64)
  let settle := min 4032 (at16 bs 4 / 64 * 64)
  let fs := clampNat 1 64 (at8 bs 6)
  let tol := min 256 (at16 bs 7)
  match index? 8 (at8 bs 0), Decimation.all[at8 bs 1]?, indexOrNone? 32 (at8 bs 9), indexOrNone? 32 (at8 bs 10),
      indexOrNone? 32 (at8 bs 11), indexOrNone? 32 (at8 bs 12), bool? (at8 bs 13) with
  | some turbine, some dec, some b0, some b1, some b2, some b3, some cot =>
    .stored
      { turbine := turbine, decimation := dec, window := n, settle := settle, frameSamples := fs, gapTolerance := tol,
        bindings := #v[b0, b1, b2, b3], captureOnTrigger := cot }
      (decide (n ≠ at16 bs 2) || decide (settle ≠ at16 bs 4) || decide (fs ≠ at8 bs 6) || decide (tol ≠ at16 bs 7))
  | _, _, _, _, _, _, _ => .refused .badValue

/-- A filter section at offset `k`. -/
def biquad? (bs : List Byte) (k : Nat) : Option Biquad :=
  (bool? (at8 bs k)).map fun bypass =>
    { bypass := bypass, b0 := sat16 bs (k + 1), b1 := sat16 bs (k + 3), b2 := sat16 bs (k + 5), a1 := sat16 bs (k + 7),
      a2 := sat16 bs (k + 9) }

/-- Three thresholds at offset `k`, each at most 2^30 (R46). -/
def thresholdsAt (bs : List Byte) (k : Nat) : Thresholds :=
  ⟨min (2 ^ 30) (at32 bs k), min (2 ^ 30) (at32 bs (k + 4)), min (2 ^ 30) (at32 bs (k + 8))⟩

/-- Some threshold at offset `k` was above 2^30. -/
def thresholdsCut (bs : List Byte) (k : Nat) : Bool :=
  decide (2 ^ 30 < at32 bs k) || decide (2 ^ 30 < at32 bs (k + 4)) || decide (2 ^ 30 < at32 bs (k + 8))

def Thresholds.ordered (t : Thresholds) : Bool := decide (t.t1 ≤ t.t2) && decide (t.t2 ≤ t.t3)

/-- R46: the relations are checked on the adjusted values. -/
def stageBand (bs : List Byte) : Staging BandEntry :=
  let clip := clampNat 1 32767 (at16 bs 46)
  let floor := min (2 ^ 30) (at32 bs 48)
  let normal := thresholdsAt bs 52
  let ice := thresholdsAt bs 64
  let lo := min 30000 (at16 bs 77)
  let hi := min 30000 (at16 bs 79)
  let p := clampNat 1 15 (at8 bs 81)
  let q := clampNat 1 15 (at8 bs 82)
  let h := min 4095 (at16 bs 83)
  match bool? (at8 bs 0), BandRole.all[at8 bs 1]?, biquad? bs 2, biquad? bs 13, biquad? bs 24, biquad? bs 35,
      bool? (at8 bs 76), bool? (at8 bs 85) with
  | some valid, some role, some s0, some s1, some s2, some s3, some relaxed, some coa =>
    if normal.ordered && ice.ordered && decide (lo ≤ hi) then
      .stored
        { valid := valid, role := role, sections := #v[s0, s1, s2, s3], clip := clip, floor := floor, normal := normal,
          ice := ice, iceRelaxed := relaxed, speedMin := lo, speedMax := hi, persistence := p, clear := q,
          hysteresis := h, captureOnAlarm := coa }
        (decide (clip ≠ at16 bs 46) || decide (floor ≠ at32 bs 48) || thresholdsCut bs 52 || thresholdsCut bs 64 ||
          decide (lo ≠ at16 bs 77) || decide (hi ≠ at16 bs 79) || decide (p ≠ at8 bs 81) || decide (q ≠ at8 bs 82) ||
          decide (h ≠ at16 bs 83))
    else .refused .badValue
  | _, _, _, _, _, _, _, _ => .refused .badValue

/-- R1. -/
def stageTurbine (bs : List Byte) : Staging TurbineEntry :=
  let given := BitVec.ofNat 16 (at16 bs 4)
  match bool? (at8 bs 0), indexOrNone? 2 (at8 bs 1), bool? (at8 bs 3) with
  | some valid, some point, some enable =>
    if 62 < at8 bs 2 then .refused .badValue
    else
      .stored
        { valid := valid, gridPoint := point, controller := BitVec.ofNat 6 (at8 bs 2), advisoryEnable := enable,
          noticeMask := given &&& turbineClasses }
        (decide (given &&& turbineClasses ≠ given))
  | _, _, _ => .refused .badValue

/-- A baseline load of blade `b` of a list of `n`: dropped beyond the list, at most 2^20 (R79). -/
def loadOf (n b : Nat) (v : Option Nat) : Option Nat := if b < n then v.map (min (2 ^ 20)) else none

/-- R79. -/
def stageIce (bs : List Byte) : Staging IceEntry :=
  let tice := clampInt (-500) 600 (sat16 bs 5)
  let rh := min 100 (at8 bs 7)
  let dmin := clampNat 1 4095 (at16 bs 8)
  let ns := clampNat 1 63 (at8 bs 10)
  let ni := max ns (clampNat 1 63 (at8 bs 11))
  let tthaw := clampInt (-500) 600 (sat16 bs 12)
  let nthaw := clampNat 1 255 (at8 bs 14)
  let nclear := clampNat 1 255 (at8 bs 15)
  let tlearn := clampInt (-500) 600 (sat16 bs 16)
  let rotor := min 3000 (at16 bs 18)
  match bool? (at8 bs 0), idList? 3 (at8 bs 1) [at8 bs 2, at8 bs 3, at8 bs 4], IcedLevel.all[at8 bs 20]?,
      optional? bs 21 (at32 bs 22), optional? bs 26 (at32 bs 27), optional? bs 31 (at32 bs 32) with
  | some valid, some track, some level, some l0, some l1, some l2 =>
    let n := track.length
    .stored
      { valid := valid, track := track, ticeMax := tice, rhMin := rh, dmin16 := dmin, nsuspect := ns, niced := ni,
        tthaw := tthaw, nthaw := nthaw, nclear := nclear, tlearn := tlearn, rotorMin := rotor, level := level,
        load := #v[loadOf n 0 l0, loadOf n 1 l1, loadOf n 2 l2] }
      (decide (tice ≠ sat16 bs 5) || decide (rh ≠ at8 bs 7) || decide (dmin ≠ at16 bs 8) || decide (ns ≠ at8 bs 10) ||
        decide (ni ≠ at8 bs 11) || decide (tthaw ≠ sat16 bs 12) || decide (nthaw ≠ at8 bs 14) ||
        decide (nclear ≠ at8 bs 15) || decide (tlearn ≠ sat16 bs 16) || decide (rotor ≠ at16 bs 18) ||
        decide (loadOf n 0 l0 ≠ l0) || decide (loadOf n 1 l1 ≠ l1) || decide (loadOf n 2 l2 ≠ l2))
  | _, _, _, _, _, _ => .refused .badValue

/-- R105. -/
def stageGrid (bs : List Byte) : Staging GridEntry :=
  let hzc := min 8191 (at16 bs 1)
  let p := clampNat 1 15 (at8 bs 72)
  let q := clampNat 1 15 (at8 bs 73)
  match bool? (at8 bs 0), PhaseOrder.all[at8 bs 3]? with
  | some valid, some order =>
    .stored
      { valid := valid, hzc := hzc, order := order, p1min := at48 bs 4, lthd := at16 bs 10,
        limits := tabulate 30 fun k => at16 bs (12 + 2 * k.1), persistence := p, clear := q }
      (decide (hzc ≠ at16 bs 1) || decide (p ≠ at8 bs 72) || decide (q ≠ at8 bs 73))
  | _, _ => .refused .badValue

/-- The usage source of a record (R131, R215): the fields the chosen source does not use are not read. -/
def source? (bs : List Byte) : Option UsageSource :=
  if at8 bs 22 = 0 then some .none
  else if at8 bs 22 = 1 then
    (idList? 4 (at8 bs 23) [at8 bs 24, at8 bs 25, at8 bs 26, at8 bs 27]).map fun ids =>
      .vib ids #v[at8 bs 28, at8 bs 29, at8 bs 30, at8 bs 31]
  else if at8 bs 22 = 2 then some (.run (at8 bs 33))
  else if at8 bs 22 = 3 then (index? 2 (at8 bs 32)).map fun p => .grid p (at8 bs 33)
  else if at8 bs 22 = 4 then some (.ice (at8 bs 33))
  else none

/-- R131. A value given for base due day, deferrals used or state is refused with READ_ONLY first (log 13); the
bytes of an absent item are not read (DEDUCED, log 47). -/
def stageMaint (bs : List Byte) : Staging MaintLoad :=
  let interval := clampNat 1 3650 (at16 bs 4)
  let lead := min 365 (at16 bs 11)
  if at8 bs 8 = 1 ∨ at8 bs 37 = 1 ∨ at8 bs 39 = 1 then .refused .readOnly
  else if 1 < at8 bs 8 ∨ 1 < at8 bs 37 ∨ 1 < at8 bs 39 then .refused .badValue
  else
    match bool? (at8 bs 0), index? 8 (at8 bs 1), Component.all[at8 bs 2]?, Task.all[at8 bs 3]?,
        optional? bs 17 (at32 bs 18), source? bs, optional? bs 34 (at16 bs 35) with
    | some valid, some turbine, some component, some task, some usage, some source, some lastDone =>
      .stored
        { valid := valid, turbine := turbine, component := component, task := task, interval := interval,
          dueDay := at16 bs 6, lead := lead, usageLimit := at32 bs 13, usage := usage, source := source,
          lastDone := lastDone }
        (decide (interval ≠ at16 bs 4) || decide (lead ≠ at16 bs 11))
    | _, _, _, _, _, _, _ => .refused .badValue

/-- R180. -/
def stageGlobal (bs : List Byte) : Staging GlobalRecord :=
  let given := BitVec.ofNat 16 (at16 bs 2)
  let grace := min 365 (at16 bs 4)
  match DeliveryMode.all[at8 bs 0]? with
  | some mode =>
    if 63 < at8 bs 1 then .refused .badValue
    else
      .stored
        { mode := mode, dest := BitVec.ofNat 6 (at8 bs 1), mask := given &&& allClasses, graceDays := grace }
        (decide (given &&& allClasses ≠ given) || decide (grace ≠ at16 bs 4))
  | none => .refused .badValue

/-! ### Tables by code (R198) -/

inductive TableCode where
  | stream | channel | band | turbine | ice | grid | maintenance | global
deriving DecidableEq, Repr

/-- The table a code 1..8 names (R198). -/
def TableCode.ofCode (n : Nat) : Option TableCode :=
  if n = 0 then none
  else ([.stream, .channel, .band, .turbine, .ice, .grid, .maintenance, .global] : List TableCode)[n - 1]?

/-- How many entries a table has. -/
def TableCode.entries : TableCode → Nat
  | .stream => 64 | .channel => 24 | .band => 32 | .turbine => 8 | .ice => 8 | .grid => 2 | .maintenance => 96
  | .global => 1

/-- The bytes of an entry record. -/
def TableCode.size : TableCode → Nat
  | .stream => streamSize | .channel => channelSize | .band => bandSize | .turbine => turbineSize | .ice => iceSize
  | .grid => gridSize | .maintenance => maintSize | .global => globalSize

/-- Storing an entry: its index given as a number below the table's size. -/
def storeAt {α : Type} {n : Nat} (v : Vector α n) (k : Nat) (a : α) : Vector α n :=
  if h : k < n then upd v ⟨k, h⟩ fun _ => a else v

/-- The staged copy with the entry of a staging outcome stored by `put`; with the outcome's status. -/
def storeResult {α : Type} (r : Staging α) (put : α → Staged) (g : Staged) : Staged × ReplyStatus :=
  match r with
  | .refused st => (g, st)
  | .stored e adjusted => (put e, if adjusted then .okAdjusted else .ok)

/-- One entry record staged into table `t` at index `k` (R200); a maintenance entry is marked for load (R131). -/
def stageEntry (t : TableCode) (k : Nat) (bs : List Byte) (g : Staged) : Staged × ReplyStatus :=
  match t with
  | .stream => storeResult (stageStream bs)
      (fun e => { g with tables := { g.tables with streams := storeAt g.tables.streams k e } }) g
  | .channel => storeResult (stageChannel bs)
      (fun e => { g with tables := { g.tables with channels := storeAt g.tables.channels k e } }) g
  | .band => storeResult (stageBand bs)
      (fun e => { g with tables := { g.tables with bands := storeAt g.tables.bands k e } }) g
  | .turbine => storeResult (stageTurbine bs)
      (fun e => { g with tables := { g.tables with turbines := storeAt g.tables.turbines k e } }) g
  | .ice => storeResult (stageIce bs)
      (fun e => { g with tables := { g.tables with ice := storeAt g.tables.ice k e } }) g
  | .grid => storeResult (stageGrid bs)
      (fun e => { g with tables := { g.tables with grid := storeAt g.tables.grid k e } }) g
  | .maintenance => storeResult (stageMaint bs)
      (fun e => { g with loads := storeAt g.loads k e, marks := storeAt g.marks k true }) g
  | .global => storeResult (stageGlobal bs) (fun e => { g with tables := { g.tables with global := e } }) g

/-- A staging status that refuses. -/
def ReplyStatus.refuses : ReplyStatus → Bool
  | .ok | .okAdjusted => false
  | _ => true

/-- The entries of a request staged in the order given: the staged copy with all of them stored, and the status of
each (R200). -/
def stageAll (t : TableCode) : List (Nat × List Byte) → Staged → Staged × List ReplyStatus
  | [], g => (g, [])
  | (k, bs) :: rest, g =>
    let r := stageEntry t k bs g
    let q := stageAll t rest r.1
    (q.1, r.2 :: q.2)

end Sys2Proof.Machine
end

