-- ==== Sys2Proof/Machine/Apply.lean ====
section
/-! DEFINITION. Apply: the validation of the staged copy and the effect on every block (R202, R203). -/

namespace Sys2Proof.Machine

/-! ### Validation (R202) -/

/-- A feed that only one valid entry may have (R202, check 1). -/
def StreamFeed.exclusive : StreamFeed → Bool
  | .vibChannel _ | .gridPoint _ | .turbineStatus _ => true
  | .ignore _ => false

/-- Check 1: the lowest entry that shares its target with a lower-numbered valid entry. -/
def Tables.conflict (t : Tables) : Option (Fin 64) :=
  (List.finRange 64).find? fun j =>
    t.streams[j].valid && t.streams[j].feed.exclusive &&
      (List.finRange 64).any fun i =>
        decide (i < j) && t.streams[i].valid && decide (t.streams[i].feed = t.streams[j].feed)

/-- A binding names no band or a valid one. -/
def Tables.bindingSound (t : Tables) : Option (Fin 32) → Bool
  | none => true
  | some b => t.bands[b].valid

/-- Check 2: the lowest channel with a binding to a band that is not valid. -/
def Tables.badBinding (t : Tables) : Option (Fin 24) :=
  (List.finRange 24).find? fun c => !t.channels[c].bindings.toList.all t.bindingSound

/-- An instance may be a track instance of turbine `x`: bound to a valid TRACK band on a channel that names `x` (R79). -/
def Tables.trackSound (t : Tables) (x : Fin 8) (i : Fin 96) : Bool :=
  decide (t.channels[instChannel i].turbine = x) &&
    match t.channels[instChannel i].bindings[instPos i] with
    | none => false
    | some b => t.bands[b].valid && decide (t.bands[b].role = .track)

/-- Check 3: the lowest valid Ice Table entry that fails R79. -/
def Tables.badIce (t : Tables) : Option (Fin 8) :=
  (List.finRange 8).find? fun x => t.ice[x].valid && !t.ice[x].track.all (t.trackSound x)

/-- An answer that is only a status. -/
def Answer.plain (st : ReplyStatus) : Answer := { status := st, reason := none, results := [] }

/-- OK with results. -/
def Answer.ok (results : List Byte) : Answer := { status := .ok, reason := none, results := results }

/-- REFUSED with a reason. -/
def Answer.refused (r : RefusalReason) : Answer := { status := .refused, reason := some r, results := [] }

/-- The answer of an Apply that is refused, naming table and index (R202, R214); none when it passes. -/
def State.applyRefused (s : State) : Option Answer :=
  let t := s.staged.tables
  if s.landing then some (.plain .busy)
  else
    match t.conflict, t.badBinding, t.badIce with
    | some e, _, _ => some { status := .conflict, reason := none, results := u8 1 ++ u8 e.1 }
    | none, some c, _ => some { status := .badValue, reason := none, results := u8 2 ++ u8 c.1 }
    | none, none, some x => some { status := .badValue, reason := none, results := u8 5 ++ u8 x.1 }
    | none, none, none => none

/-! ### Effect (R203), block by block in the order of log 23 -/

/-- The counts of an entry that becomes valid, or stays valid with another match, mask, role or target (R24). -/
def resetCounts (old : Tables) (s : State) : State :=
  { s with counts := tabulate 64 fun e =>
      if s.tables.streams[e].valid ∧ old.streams[e] ≠ s.tables.streams[e] then ⟨0, 0⟩ else s.counts[e] }

/-- A Turbine Table entry takes effect (R2, R17). -/
def applyTurbine (old : Tables) (t : Fin 8) (s : State) : State :=
  let s :=
    if old.turbines[t].valid && !s.tables.turbines[t].valid then
      eachWindow t WindowContext.stale (s.modTurbine t Turbine.clearStatus)
    else s
  s.modTurbine t (serviceChange old.turbines[t] s.tables.turbines[t] s.now)

/-- The staged tables become current with the next generation, and a landing begins (R203). -/
def landTables (s : State) : State :=
  { s with tables := s.staged.tables, generation := (s.generation + 1) % 65536, landing := true }

/-- The effect of an Apply that passed its checks (R203). All channels look at their sources before the first takes the
generation; channels, points, turbines and ice entries each act in increasing number (DESIGN CHOICE, log 33). -/
def applyEffect (s : State) : State :=
  let old := s.tables
  let s := landTables s
  let s := forAll 8 (applyTurbine old) s
  let s := resetCounts old s
  let s := forAll 24 (sourceChange old) s
  let s := landingCheck (forAll 24 takeGeneration s)
  let s := forAll 8 (fun t => applyIce old.ice[t] t) s
  let s := forAll 2 (fun p => applyGridEntry old.grid[p] p) s
  let s := forAll 2 (applyGridBinding old) s
  let s := applyMaintenance (decide (old.global.graceDays ≠ s.tables.global.graceDays)) s
  suspendCheck s

end Sys2Proof.Machine
end

