-- ==== Sys2Proof/Machine/Restarts.lean ====
section
/-! DEFINITION. Suspend and Resume of the whole analysis, and the two restarts (R204, R209, R210). -/

namespace Sys2Proof.Machine

/-! ### Suspend and Resume (R204) -/

/-- A Suspend in ACTIVE: the channels act by R41, then the points by R112, each in increasing number (DESIGN CHOICE,
log 33), and the reports are looked at; in the other analysis states nothing changes. -/
def suspendAnalysis (s : State) : State :=
  if s.analysis = .active then
    suspendCheck (forAll 2 suspendPoint (forAll 24 suspendChannel { s with analysis := .suspending }))
  else s

/-- A Resume outside ACTIVE: the reports are cleared, the channels act by R42 and the points by R112. -/
def resumeAnalysis (s : State) : State :=
  if s.analysis = .active then s
  else
    forAll 2 resumePoint (forAll 24 resumeChannel
      { s with analysis := .active, channelReport := false, gridReport := false })

/-! ### Restart FULL (R209) -/

/-- What a turbine's mechanism keeps of an ADVISORY frame in transmission (R20, log 25). -/
def Advisory.afterFull : Advisory → Advisory
  | .sending v => .sending v
  | .sendingPending v _ _ => .sending v
  | .quiet | .pending _ _ | .holding _ => .quiet

/-- Every block at its Restart FULL values (R20, R44, R77, R103, R129, R155, R168, R182, R196, R209): the power-on
values but for the node number, the forwarding path and a turbine whose ADVISORY frame is in transmission. -/
def restartFullEffect (s : State) : State :=
  { State.powerOn s.node with
    resetLow := s.resetLow, link := s.link, pending := s.pending
    turbines := tabulate 8 fun t => { Turbine.init with advisory := s.turbines[t].advisory.afterFull } }

/-! ### Restart PROCESSING (R210) -/

/-- The slots FREE, the landing ended and the analysis ACTIVE: done first, so that the restart creates no notice
(R45, R169, R183; log 24). -/
def restartQuiet (s : State) : State :=
  { s with slots := Vector.replicate 2 Slot.init, landing := false, analysis := .active, channelReport := false,
           gridReport := false }

/-- The instances at their Restart PROCESSING values (R78). -/
def restartInsts (s : State) : State :=
  s.mapInsts fun i x =>
    { x with alarm := AlarmRecord.init, lastResult := none, boundSinceReset := (s.bandOf i).isSome }

/-- The turbine contexts at their Restart PROCESSING values (R20). -/
def restartTurbines (s : State) : State :=
  { s with turbines := tabulate 8 fun t => { s.turbines[t].clearStatus with worst := 0 } }

/-- The notice queue emptied but for a notice in transmission (R183). -/
def restartNotices (s : State) : State :=
  { s with notices := { s.notices with queue := s.notices.queue.filter fun n => s.notices.sending = some n.number } }

/-- Every block at its Restart PROCESSING values (R20, R45, R78, R104, R130, R156, R169, R183, R196, R210). -/
def restartProcessingEffect (s : State) : State :=
  let s := forAll 24 restartChannel (restartQuiet s)
  restartNotices (forAll 2 restartPoint (restartTurbines (restartInsts s)))

end Sys2Proof.Machine
end

