-- ==== Sys2Proof/Machine/Requests.lean ====
section
/-! DEFINITION. The management unit: the request queue, the checks of R198, and what each request does and answers
(chapter 10, R214). -/

namespace Sys2Proof.Machine

/-! ### Request codes (section 11.3) -/

inductive RequestKind where
  | identify | stageEntries | readStaged | readCurrent | discardStaged | apply | suspend | resume | readStatus
  | readResults | fetchNotices | setDeliveryMode | withdrawNotices | captureChannel | readCapture | releaseCapture
  | done | defer | iceOverride | baselineReset | restartFull | restartProcessing
deriving DecidableEq, Repr

def RequestKind.code : RequestKind → Byte
  | .identify => 0x01 | .stageEntries => 0x10 | .readStaged => 0x11 | .readCurrent => 0x12 | .discardStaged => 0x13
  | .apply => 0x14 | .suspend => 0x20 | .resume => 0x21 | .readStatus => 0x30 | .readResults => 0x31
  | .fetchNotices => 0x40 | .setDeliveryMode => 0x41 | .withdrawNotices => 0x42 | .captureChannel => 0x50
  | .readCapture => 0x51 | .releaseCapture => 0x52 | .done => 0x60 | .defer => 0x61 | .iceOverride => 0x70
  | .baselineReset => 0x71 | .restartFull => 0xF0 | .restartProcessing => 0xF1

def RequestKind.all : List RequestKind :=
  [.identify, .stageEntries, .readStaged, .readCurrent, .discardStaged, .apply, .suspend, .resume, .readStatus,
   .readResults, .fetchNotices, .setDeliveryMode, .withdrawNotices, .captureChannel, .readCapture, .releaseCapture,
   .done, .defer, .iceOverride, .baselineReset, .restartFull, .restartProcessing]

/-- The request a code names; any other code names none (R198). -/
def RequestKind.ofCode (c : Byte) : Option RequestKind := RequestKind.all.find? fun k => decide (k.code = c)

/-! ### The checks of R198 -/

/-- Check 1 fails: MALFORMED, and nothing else changes. -/
def malformed (s : State) : State × Answer := (s.setMalformed, .plain .malformed)

/-- Check 2 fails: BAD_TABLE, and nothing else changes. -/
def badTable (s : State) : State × Answer := (s.setNoSuchTable, .plain .badTable)

/-- A request whose arguments are exactly `n` bytes (R214). -/
def sized (n : Nat) (rq : Request) (s : State) (f : State × Answer) : State × Answer :=
  if rq.args.length = n then f else malformed s

/-- Check 3: an index below `m`, or BAD_INDEX and nothing changes. -/
def indexed (m n : Nat) (s : State) (f : Fin m → State × Answer) : State × Answer :=
  match index? m n with
  | some i => f i
  | none => (s, .plain .badIndex)

/-- A count of 0 or above 8 is taken as 8 (R177, R201). -/
def countOf (n : Nat) : Nat := if n = 0 ∨ 8 < n then 8 else n

/-! ### Identify (R205) -/

def identify (rq : Request) (s : State) : State × Answer :=
  sized 0 rq s (s, .ok (u16 0x2E71 ++ u16 2408 ++ u8 1 ++ u8 s.node.toNat ++ u16 s.generation))

/-! ### Staging (R200, R201) -/

/-- The entries of a Stage entries request: index, then the entry record. -/
def entriesOf (size : Nat) : Nat → List Byte → List (Nat × List Byte)
  | 0, _ => []
  | k + 1, bs => (at8 bs 0, (bs.drop 1).take size) :: entriesOf size k (bs.drop (1 + size))

/-- The entries checked and stored all or none (R200). -/
def storeEntries (t : TableCode) (es : List (Nat × List Byte)) (s : State) : State × Answer :=
  let r := stageAll t es s.staged
  let s := if ReplyStatus.readOnly ∈ r.2 then s.setReadOnlyWrite else s
  match r.2.findIdx? ReplyStatus.refuses with
  | some k => (s, { status := r.2.getD k .badValue, reason := none, results := u8 (k + 1) })
  | none => ({ s with staged := r.1 }, .plain (if ReplyStatus.okAdjusted ∈ r.2 then .okAdjusted else .ok))

/-- Stage entries (R198, R200, R214). An index beyond the table answers the whole request BAD_INDEX, with no position
byte (DEDUCED, log 41). -/
def stageEntries (rq : Request) (s : State) : State × Answer :=
  let n := at8 rq.args 1
  if rq.args.length < 2 ∨ n = 0 ∨ 8 < n then malformed s
  else
    match TableCode.ofCode (at8 rq.args 0) with
    | none => badTable s
    | some t =>
      if rq.args.length = 2 + n * (1 + t.size) then
        let es := entriesOf t.size n (rq.args.drop 2)
        if es.any (fun e => decide (t.entries ≤ e.1)) then (s, .plain .badIndex) else storeEntries t es s
      else malformed s

/-- The record of an entry in range, or nothing. -/
def recordAt {α : Type} {m : Nat} (v : Vector α m) (k : Nat) (enc : α → List Byte) : List Byte :=
  if h : k < m then enc v[k] else []

/-- A staged entry's record (R21, R131, R215). -/
def State.stagedRecord (s : State) (t : TableCode) (k : Nat) : List Byte :=
  match t with
  | .stream => recordAt s.staged.tables.streams k fun e => streamRecord e ⟨0, 0⟩
  | .channel => recordAt s.staged.tables.channels k ChannelEntry.bytes
  | .band => recordAt s.staged.tables.bands k BandEntry.bytes
  | .turbine => recordAt s.staged.tables.turbines k TurbineEntry.bytes
  | .ice => recordAt s.staged.tables.ice k IceEntry.bytes
  | .grid => recordAt s.staged.tables.grid k GridEntry.bytes
  | .maintenance => recordAt s.staged.loads k MaintLoad.bytes
  | .global => s.staged.tables.global.bytes

/-- A current entry's record (R21, R215). -/
def State.currentRecord (s : State) (t : TableCode) (k : Nat) : List Byte :=
  match t with
  | .stream =>
    match index? 64 k with
    | some e => streamRecord s.tables.streams[e] s.counts[e]
    | none => []
  | .channel => recordAt s.tables.channels k ChannelEntry.bytes
  | .band => recordAt s.tables.bands k BandEntry.bytes
  | .turbine => recordAt s.tables.turbines k TurbineEntry.bytes
  | .ice => recordAt s.tables.ice k IceEntry.bytes
  | .grid => recordAt s.tables.grid k GridEntry.bytes
  | .maintenance => recordAt s.items k MaintItem.bytes
  | .global => s.tables.global.bytes

/-- A read of a table: the records from the first index on, to the end of the table at most (R201). -/
def readTable (rq : Request) (record : TableCode → Nat → List Byte) (s : State) : State × Answer :=
  sized 3 rq s <|
    match TableCode.ofCode (at8 rq.args 0) with
    | none => badTable s
    | some t =>
      let first := at8 rq.args 1
      if t.entries ≤ first then (s, .plain .badIndex)
      else (s, .ok ((List.range (min (countOf (at8 rq.args 2)) (t.entries - first))).flatMap fun k => record t (first + k)))

def readStaged (rq : Request) (s : State) : State × Answer := readTable rq s.stagedRecord s

def readCurrent (rq : Request) (s : State) : State × Answer := readTable rq s.currentRecord s

/-- A current entry as staging holds it. -/
def MaintItem.toLoad (e : MaintItem) : MaintLoad :=
  { valid := e.valid, turbine := e.turbine, component := e.component, task := e.task, interval := e.interval,
    dueDay := e.dueDay, lead := e.lead, usageLimit := e.usageLimit, usage := some e.usage, source := e.source,
    lastDone := e.lastDone }

/-- Discard staged (R201). -/
def discardStaged (rq : Request) (s : State) : State × Answer :=
  sized 0 rq s
    ({ s with staged := { tables := s.tables, loads := tabulate 96 fun n => s.items[n].toLoad,
                          marks := Vector.replicate 96 false } }, .ok [])

/-! ### Apply, Suspend, Resume (R202 to R204) -/

/-- Apply: the answer of an OK reply is the new generation and whether the landing has ended (R203, R214). -/
def applyRequest (rq : Request) (s : State) : State × Answer :=
  sized 0 rq s <|
    match s.applyRefused with
    | some a => (s, a)
    | none =>
      let s := applyEffect s
      (s, .ok (u16 s.generation ++ yesNo (!s.landing)))

def suspendRequest (rq : Request) (s : State) : State × Answer :=
  sized 0 rq s <|
    let s := suspendAnalysis s
    (s, .ok (u8 s.analysis.code))

def resumeRequest (rq : Request) (s : State) : State × Answer :=
  sized 0 rq s <|
    let s := resumeAnalysis s
    (s, .ok (u8 s.analysis.code))

/-! ### Reading (R206, R207) -/

/-- Read status: the items as they stand, then the flags are cleared (R199, R206). -/
def readStatus (rq : Request) (s : State) : State × Answer :=
  sized 0 rq s ({ s with errors := ErrorRecord.init }, .ok s.statusRecord)

/-- A kind of result: how many there are, and the record of each (R207). -/
structure ResultKind where
  size : Nat
  record : Fin size → List Byte

def State.resultKind (s : State) (k : Nat) : Option ResultKind :=
  if k = 1 then some ⟨96, s.instRecord⟩
  else if k = 2 then some ⟨2, s.gridRecord⟩
  else if k = 3 then some ⟨8, s.turbineRecord⟩
  else if k = 4 then some ⟨8, s.iceRecord⟩
  else if k = 5 then some ⟨96, s.maintRecord⟩
  else none

/-- The records of a list of indices, or none when one is out of range. -/
def recordsOf (k : ResultKind) : List Nat → Option (List Byte)
  | [] => some []
  | n :: rest =>
    match index? k.size n, recordsOf k rest with
    | some i, some bs => some (k.record i ++ bs)
    | _, _ => none

/-- Read results (R207, R214). An unknown kind is answered MALFORMED without the flag (log 17). -/
def readResults (rq : Request) (s : State) : State × Answer :=
  let n := at8 rq.args 1
  if rq.args.length < 2 ∨ n = 0 ∨ 8 < n ∨ rq.args.length ≠ 2 + n then malformed s
  else
    match s.resultKind (at8 rq.args 0) with
    | none => (s, .plain .malformed)
    | some k =>
      match recordsOf k ((rq.args.drop 2).map BitVec.toNat) with
      | some bs => (s, .ok bs)
      | none => (s, .plain .badIndex)

/-! ### Notices (R177 to R179) -/

/-- The first `n` notices that are not in transmission, and what stays in the queue (R177). -/
def fetchFrom (sending : Option Nat) : List Notice → Nat → List Notice × List Notice
  | [], _ => ([], [])
  | q, 0 => ([], q)
  | x :: rest, n + 1 =>
    if sending = some x.number then
      let r := fetchFrom sending rest (n + 1)
      (r.1, x :: r.2)
    else
      let r := fetchFrom sending rest n
      (x :: r.1, r.2)

/-- Fetch notices (R177, R214). -/
def fetchNotices (rq : Request) (s : State) : State × Answer :=
  sized 1 rq s <|
    let r := fetchFrom s.notices.sending s.notices.queue (countOf (at8 rq.args 0))
    ({ s with notices := { s.notices with queue := r.2 } }, .ok (u8 r.1.length ++ r.1.flatMap Notice.payload))

/-- A global record with another delivery mode. -/
def Tables.withMode (t : Tables) (m : DeliveryMode) : Tables := { t with global := { t.global with mode := m } }

/-- Set delivery mode (R178). A request that names the mode in force changes nothing (log 32). -/
def setDeliveryMode (rq : Request) (s : State) : State × Answer :=
  sized 1 rq s <|
    match DeliveryMode.all[at8 rq.args 0]? with
    | none => (s, .plain .badValue)
    | some m =>
      if s.tables.global.mode = m then (s, .ok [])
      else
        ({ s with tables := s.tables.withMode m, staged := { s.staged with tables := s.staged.tables.withMode m } }, .ok [])

/-- A notice that a Withdraw removes: of the named turbine, or any for none, and not in transmission (R179). -/
def NoticeQueue.withdrawn (q : NoticeQueue) (turbine : Option (Fin 8)) (x : Notice) : Bool :=
  decide (q.sending ≠ some x.number) &&
    match turbine with
    | none => true
    | some t => decide (x.offer.turbine = some t)

/-- The matching notices removed; the reply carries their number (R179). -/
def withdraw (turbine : Option (Fin 8)) (s : State) : State × Answer :=
  let gone := s.notices.queue.filter (s.notices.withdrawn turbine)
  ({ s with notices := { s.notices with queue := s.notices.queue.filter fun x => !s.notices.withdrawn turbine x } },
   .ok (u8 gone.length))

/-- Withdraw notices: FFh names all (R179, R198). -/
def withdrawNotices (rq : Request) (s : State) : State × Answer :=
  sized 1 rq s <|
    if at8 rq.args 0 = 255 then withdraw none s
    else indexed 8 (at8 rq.args 0) s fun t => withdraw (some t) s

/-! ### Captures (R159, R160, R165, R166) -/

/-- Capture channel: a MANUAL request with the channel's generation in force (R158, R159). -/
def captureChannel (rq : Request) (s : State) : State × Answer :=
  sized 1 rq s <|
    indexed 24 (at8 rq.args 0) s fun c =>
      match s.captureRefused c with
      | some r => (s, .refused r)
      | none => (captureStart c .manual none s.channels[c].gen s, .ok (u8 s.freeSlot.1))

/-- Read capture (R165). -/
def readCapture (rq : Request) (s : State) : State × Answer :=
  sized 2 rq s <|
    indexed 2 (at8 rq.args 0) s fun k =>
      let b := at8 rq.args 1
      match s.slots[k].state with
      | .free => (s, .refused .empty)
      | .filling => (s, .plain .notNow)
      | .held => if s.slots[k].blocks ≤ b then (s, .plain .badIndex) else (s, .ok (s.slots[k].blockRecord b))

/-- Release capture (R166). -/
def releaseCapture (rq : Request) (s : State) : State × Answer :=
  sized 1 rq s <|
    indexed 2 (at8 rq.args 0) s fun k =>
      match s.slots[k].state with
      | .free => (s, .ok [])
      | .filling => (s, .plain .notNow)
      | .held => (s.modSlot k fun _ => Slot.init, .ok [])

/-! ### Maintenance (R149 to R153) -/

/-- The cross-job effects of a REPLACE (R150, R151). -/
def replaceEffects (n : Fin 96) (s : State) : State :=
  if s.items[n].task = .replace then
    match s.items[n].source with
    | .vib ids _ => ids.foldl (fun s i => resetAlarm i s) s
    | .ice _ => resetBaselines s.items[n].turbine s
    | .none | .run _ | .grid _ _ => s
  else s

/-- Done on entry `n` (R149). -/
def doneEntry (n : Fin 96) (s : State) : State × Answer :=
  if s.items[n].valid then
    match s.scheduleDay with
    | none => (s, .refused .noTime)
    | some today => (replaceEffects n (evaluate n (s.modItem n fun e => e.done today)), .ok [])
  else (s, .refused .disabled)

def doneRequest (rq : Request) (s : State) : State × Answer :=
  sized 1 rq s (indexed 96 (at8 rq.args 0) s fun n => doneEntry n s)

/-- Defer of entry `n` by a day count (R152, R153). -/
def deferEntry (n : Fin 96) (days : Nat) (s : State) : State × Answer :=
  if days = 0 then (s, .plain .badValue)
  else
    match s.deferRefused n with
    | some r => (s, .refused r)
    | none =>
      (evaluate n (s.modItem n fun e => e.defer (min days 90)), .plain (if 90 < days then .okAdjusted else .ok))

def deferRequest (rq : Request) (s : State) : State × Answer :=
  sized 3 rq s (indexed 96 (at8 rq.args 0) s fun n => deferEntry n (at16 rq.args 1) s)

/-! ### Icing (R99, R100) -/

/-- The stored operating state is PRODUCING; in NONE there is no stored state to read (R7, R99). -/
def Turbine.producing (t : Turbine) : Bool := decide (t.freshness ≠ .none) && decide (t.status.op = .producing)

def iceOverride (rq : Request) (s : State) : State × Answer :=
  sized 1 rq s <|
    indexed 8 (at8 rq.args 0) s fun t =>
      if s.turbines[t].producing then (s, .refused .producing) else (overrideIce t s, .ok [])

def baselineReset (rq : Request) (s : State) : State × Answer :=
  sized 1 rq s (indexed 8 (at8 rq.args 0) s fun t => (resetBaselines t s, .ok []))

/-! ### Restarts (R209, R210) -/

/-- Restart FULL is only answered; it takes effect as its reply completes (R209). -/
def restartFullRequest (rq : Request) (s : State) : State × Answer := sized 0 rq s (s, .ok [])

/-- Restart PROCESSING, answered with the generation after its effect (R210). -/
def restartProcessingRequest (rq : Request) (s : State) : State × Answer :=
  sized 0 rq s (restartProcessingEffect s, .ok (u16 s.generation))

/-! ### Taking a request (R197) -/

/-- The checks, the effect and the answer of a request, by its code. -/
def carryOut (q : QueuedRequest) (s : State) : State × Answer :=
  match RequestKind.ofCode q.code with
  | none => malformed s
  | some .identify => identify q.rq s
  | some .stageEntries => stageEntries q.rq s
  | some .readStaged => readStaged q.rq s
  | some .readCurrent => readCurrent q.rq s
  | some .discardStaged => discardStaged q.rq s
  | some .apply => applyRequest q.rq s
  | some .suspend => suspendRequest q.rq s
  | some .resume => resumeRequest q.rq s
  | some .readStatus => readStatus q.rq s
  | some .readResults => readResults q.rq s
  | some .fetchNotices => fetchNotices q.rq s
  | some .setDeliveryMode => setDeliveryMode q.rq s
  | some .withdrawNotices => withdrawNotices q.rq s
  | some .captureChannel => captureChannel q.rq s
  | some .readCapture => readCapture q.rq s
  | some .releaseCapture => releaseCapture q.rq s
  | some .done => doneRequest q.rq s
  | some .defer => deferRequest q.rq s
  | some .iceOverride => iceOverride q.rq s
  | some .baselineReset => baselineReset q.rq s
  | some .restartFull => restartFullRequest q.rq s
  | some .restartProcessing => restartProcessingRequest q.rq s

/-- Taking a request is one event: its answer is held as the reply, with the stamp of the moment (R197). -/
def takeRequest (q : QueuedRequest) (s : State) : State :=
  let r := carryOut q s
  { r.1 with mgmt := { r.1.mgmt with reply := some { request := q, answer := r.2, stamp := s.stamp } } }

/-- The head of the request queue is taken while no reply is held (R197, log 5). -/
def takeWaiting (s : State) : State :=
  if s.mgmt.reply.isSome then s
  else
    match s.mgmt.queue with
    | [] => s
    | q :: rest => takeRequest q { s with mgmt := { s.mgmt with queue := rest } }

/-- A request is offered to the queue, and the management unit takes its head if it holds no reply (R197). -/
def offerRequest (q : QueuedRequest) (s : State) : State :=
  takeWaiting (if s.mgmt.queue.length < Config.requestSize then
    { s with mgmt := { s.mgmt with queue := s.mgmt.queue ++ [q] } } else s.setMgmtOverflow)

/-- A request that reaches the part as a command of its own (log 4): a part without a node address consumes
none (R190). -/
def request (code : Byte) (rq : Request) (s : State) : State :=
  if s.node = Config.noNode then s else offerRequest ⟨code, rq⟩ s

/-- The reply answers a Restart FULL that takes effect (R209). -/
def Reply.restartsFull (r : Reply) : Bool :=
  decide (RequestKind.ofCode r.request.code = some .restartFull) && decide (r.answer.status = .ok)

/-- A MGMT_REPLY frame completes: the reply is released, a Restart FULL takes effect, and the next request is
taken (R197, R209). -/
def completeReply (s : State) : State :=
  match s.link.station.sending with
  | some (.reply _) =>
    let full := match s.mgmt.reply with
      | some r => r.restartsFull
      | none => false
    let s := freePort .station { s with mgmt := { s.mgmt with reply := none } }
    takeWaiting (if full then restartFullEffect s else s)
  | _ => s

end Sys2Proof.Machine
end

