-- ==== Sys2Proof/Machine/Reception.lean ====
section
/-! DEFINITION. The reception of a frame: health, forwarding, tapping, taking and consuming (R22, R23, R184, R185). -/

namespace Sys2Proof.Machine

/-- The frame's entry hands the frame to its target when role and kind agree (R23). -/
def handOverFrame (e : Fin 64) (f : Frame) (s : State) : State :=
  match s.tables.streams[e].feed, f.kind with
  | .vibChannel c, some .sample => takeSample c e f.payload s
  | .gridPoint p, some .grid => takeGrid p e f.payload s
  | .turbineStatus t, some .status =>
    if s.statusTaken t f.payload then countTaken e (takeStatus t f.payload s) else s
  | _, _ => s

/-- The stream classifier is presented with a frame (R22). -/
def classifyFrame (f : Frame) (s : State) : State :=
  match s.tables.classify f.source f.tag with
  | some e => handOverFrame e f s
  | none => s

/-- A frame is addressed to this node (R185). -/
def State.addressed (s : State) (f : Frame) : Bool := decide (f.dest = s.node) && decide (s.node ≠ Config.noNode)

/-- A consumed MGMT_REQ at the management unit: too short to be answered, or offered to the queue (R197). Shortness is
looked at first, also when four requests wait (DESIGN CHOICE, log 40). -/
def consumeRequest (f : Frame) (s : State) : State :=
  match f.payload with
  | code :: hi :: lo :: args =>
    offerRequest ⟨code, { source := f.source, tag := hi ++ lo, args := args }⟩ s
  | _ => s.setMalformed

/-- What a good frame does beside being forwarded, by port and kind (R185). -/
def alsoUsed (p : Port) (f : Frame) (s : State) : State :=
  match p, f.kind with
  | .field, some .sample | .field, some .grid | .field, some .status => classifyFrame f s
  | .field, some .mgmtReq => if s.addressed f then s.setMgmtOnFieldPort else s
  | .station, some .time =>
    match timeOf f.payload with
    | some (d, m) => takeTime d m s
    | none => s
  | .station, some .mgmtReq => if s.addressed f then consumeRequest f s else s
  | _, _ => s

/-- The frame is consumed and not forwarded: a MGMT_REQ addressed to this node on the station port (R185). -/
def State.consumed (s : State) (p : Port) (f : Frame) : Bool :=
  decide (p = .station) && decide (f.kind = some .mgmtReq) && s.addressed f

/-- A good frame is forwarded, unless it is consumed, and used (R185; the order is log 27). -/
def goodFrame (p : Port) (bytes : List Byte) (s : State) : State :=
  let f := parseFrame bytes
  alsoUsed p f (if s.consumed p f then s else forward (otherPort p) bytes s)

/-- The reception of these bytes completes on a port (R184, R189). -/
def receive (p : Port) (bytes : List Byte) (s : State) : State :=
  if frameGood bytes then goodFrame p bytes (portHealth p true s) else portHealth p false s

end Sys2Proof.Machine
end

