-- ==== Sys2Proof/Machine/Commands.lean ====
section
/-! DEFINITION. The meaning of each command, one definition per row of spec/opcode_table.json, and the passing of a
millisecond when no command waits. -/

namespace Sys2Proof.Machine

/-! ### Pins (R216) -/

/-- POWER_ON: the straps are sampled and every block takes its power-on values, the counter starting at 0 (R216). -/
def execPowerOn (straps : BitVec 6) (s : State) : Host.Outcome State Fault Refusal :=
  .next { State.powerOn straps with pending := s.pending }

/-- A frame in transmission is cut and nothing is transmitted (R216). -/
def cutPort (p : Port) (s : State) : State := s.modPort p fun x => { x with sending := none }

/-- RESET_INPUT_HELD_LOW: both ports receive and transmit nothing and frames in transmission are cut; what else the
part holds stands until the release sets it anew (R216; log 8, 9). -/
def execResetInputHeldLow (s : State) : Host.Outcome State Fault Refusal :=
  .next (cutPort .field (cutPort .station { s with resetLow := true }))

/-! ### The link (R15, R176, R184, R187, R197) -/

/-- FRAME_RECEPTION (R184, R185). -/
def execFrameReception (port : Port) (bytes : List Byte) (s : State) : Host.Outcome State Fault Refusal :=
  live (receive port bytes) s

/-- FORWARDED_FRAME_COMPLETION (R187). -/
def execForwardedFrameCompletion (port : Port) (s : State) : Host.Outcome State Fault Refusal :=
  live (completeForwarded port) s

/-- NOTICE_FRAME_COMPLETION (R176). -/
def execNoticeFrameCompletion (s : State) : Host.Outcome State Fault Refusal := live completeNotice s

/-- ADVISORY_FRAME_COMPLETION (R15). -/
def execAdvisoryFrameCompletion (s : State) : Host.Outcome State Fault Refusal := live completeAdvisory s

/-- MGMT_REPLY_COMPLETION (R197, R209). -/
def execMgmtReplyCompletion (s : State) : Host.Outcome State Fault Refusal := live completeReply s

/-! ### Timers and the clock (R6, R16, R31, R111, R137, R191, R193) -/

/-- FRESHNESS_TIMEOUT (R6). -/
def execFreshnessTimeout (turbine : Fin 8) (s : State) : Host.Outcome State Fault Refusal :=
  live (freshnessExpires turbine) s

/-- RESEND_TIMER_EXPIRY (R16). -/
def execResendTimerExpiry (turbine : Fin 8) (s : State) : Host.Outcome State Fault Refusal :=
  live (resendExpires turbine) s

/-- CHANNEL_IDLE_TIMER_EXPIRY (R31). -/
def execChannelIdleTimerExpiry (channel : Fin 24) (s : State) : Host.Outcome State Fault Refusal :=
  live (channelIdleExpires channel) s

/-- GRID_IDLE_TIMER_EXPIRY (R111). -/
def execGridIdleTimerExpiry (point : Fin 2) (s : State) : Host.Outcome State Fault Refusal :=
  live (gridIdleExpires point) s

/-- HOLDOVER_TIMER_EXPIRY (R193). -/
def execHoldoverTimerExpiry (s : State) : Host.Outcome State Fault Refusal := live holdoverExpires s

/-- MINUTE_EVENT (R137, R194). -/
def execMinuteEvent (s : State) : Host.Outcome State Fault Refusal := live minutePasses s

/-- MS_OF_DAY_WRAP (R191): the millisecond of the counter in which the day ends passes. -/
def execMsOfDayWrap (s : State) : Host.Outcome State Fault Refusal := live dayWraps s

/-! ### Requests (R197, R198; what each does stands in Requests.lean) -/

/-- UNKNOWN_REQUEST_CODE: MALFORMED (R198). -/
def execUnknownRequestCode (code : Byte) (rq : Request) (s : State) : Host.Outcome State Fault Refusal :=
  live (request code rq) s

/-- IDENTIFY (R205). -/
def execIdentify (rq : Request) (s : State) : Host.Outcome State Fault Refusal :=
  live (request RequestKind.identify.code rq) s

/-- STAGE_ENTRIES (R200). -/
def execStageEntries (rq : Request) (s : State) : Host.Outcome State Fault Refusal :=
  live (request RequestKind.stageEntries.code rq) s

/-- READ_STAGED (R201). -/
def execReadStaged (rq : Request) (s : State) : Host.Outcome State Fault Refusal :=
  live (request RequestKind.readStaged.code rq) s

/-- READ_CURRENT (R201). -/
def execReadCurrent (rq : Request) (s : State) : Host.Outcome State Fault Refusal :=
  live (request RequestKind.readCurrent.code rq) s

/-- DISCARD_STAGED (R201). -/
def execDiscardStaged (rq : Request) (s : State) : Host.Outcome State Fault Refusal :=
  live (request RequestKind.discardStaged.code rq) s

/-- APPLY (R202, R203). -/
def execApply (rq : Request) (s : State) : Host.Outcome State Fault Refusal :=
  live (request RequestKind.apply.code rq) s

/-- SUSPEND (R204). -/
def execSuspend (rq : Request) (s : State) : Host.Outcome State Fault Refusal :=
  live (request RequestKind.suspend.code rq) s

/-- RESUME (R204). -/
def execResume (rq : Request) (s : State) : Host.Outcome State Fault Refusal :=
  live (request RequestKind.resume.code rq) s

/-- READ_STATUS (R206). -/
def execReadStatus (rq : Request) (s : State) : Host.Outcome State Fault Refusal :=
  live (request RequestKind.readStatus.code rq) s

/-- READ_RESULTS (R207). -/
def execReadResults (rq : Request) (s : State) : Host.Outcome State Fault Refusal :=
  live (request RequestKind.readResults.code rq) s

/-- FETCH_NOTICES (R177). -/
def execFetchNotices (rq : Request) (s : State) : Host.Outcome State Fault Refusal :=
  live (request RequestKind.fetchNotices.code rq) s

/-- SET_DELIVERY_MODE (R178). -/
def execSetDeliveryMode (rq : Request) (s : State) : Host.Outcome State Fault Refusal :=
  live (request RequestKind.setDeliveryMode.code rq) s

/-- WITHDRAW_NOTICES (R179). -/
def execWithdrawNotices (rq : Request) (s : State) : Host.Outcome State Fault Refusal :=
  live (request RequestKind.withdrawNotices.code rq) s

/-- CAPTURE_CHANNEL (R159). -/
def execCaptureChannel (rq : Request) (s : State) : Host.Outcome State Fault Refusal :=
  live (request RequestKind.captureChannel.code rq) s

/-- READ_CAPTURE (R165). -/
def execReadCapture (rq : Request) (s : State) : Host.Outcome State Fault Refusal :=
  live (request RequestKind.readCapture.code rq) s

/-- RELEASE_CAPTURE (R166). -/
def execReleaseCapture (rq : Request) (s : State) : Host.Outcome State Fault Refusal :=
  live (request RequestKind.releaseCapture.code rq) s

/-- DONE (R149 to R151). -/
def execDone (rq : Request) (s : State) : Host.Outcome State Fault Refusal :=
  live (request RequestKind.done.code rq) s

/-- DEFER (R152, R153). -/
def execDefer (rq : Request) (s : State) : Host.Outcome State Fault Refusal :=
  live (request RequestKind.defer.code rq) s

/-- ICE_OVERRIDE (R99). -/
def execIceOverride (rq : Request) (s : State) : Host.Outcome State Fault Refusal :=
  live (request RequestKind.iceOverride.code rq) s

/-- BASELINE_RESET (R100). -/
def execBaselineReset (rq : Request) (s : State) : Host.Outcome State Fault Refusal :=
  live (request RequestKind.baselineReset.code rq) s

/-- RESTART_FULL (R209). -/
def execRestartFull (rq : Request) (s : State) : Host.Outcome State Fault Refusal :=
  live (request RequestKind.restartFull.code rq) s

/-- RESTART_PROCESSING (R210). -/
def execRestartProcessing (rq : Request) (s : State) : Host.Outcome State Fault Refusal :=
  live (request RequestKind.restartProcessing.code rq) s

/-! ### A millisecond without a command (R191, R194; log 2) -/

/-- What is due once a millisecond has passed, in the model's order (log 2). -/
def expiries : List (State → State) :=
  [holdoverExpires, minutePasses] ++ (List.finRange 8).map freshnessExpires ++ (List.finRange 8).map resendExpires ++
    (List.finRange 24).map channelIdleExpires ++ (List.finRange 2).map gridIdleExpires

/-- Every expiry that is due at the counter's value is taken, each as one event after which the arbiters choose. -/
def takeDue (s : State) : State := expiries.foldl (fun s f => arbitrate (f s)) s

/-- One millisecond passes (log 2): first what a MS_OF_DAY_WRAP left due at the counter's value is taken, then the counter
and a running clock advance, and then what is due at the new value is taken. -/
def tick (s : State) : State :=
  if s.resetLow then s else takeDue (arbitrate (passMillisecond (takeDue s)))

end Sys2Proof.Machine
end

