-- ==== Sys2Proof/Machine/Dispatch.lean ====
section
/-! DEFINITION. Every command to its meaning. -/

namespace Sys2Proof.Machine

def exec (i : Instr) (s : State) : Host.Outcome State Fault Refusal :=
  match i with
  | .powerOn straps => Sys2Proof.Machine.execPowerOn straps s
  | .resetInputHeldLow => Sys2Proof.Machine.execResetInputHeldLow s
  | .frameReception port bytes => Sys2Proof.Machine.execFrameReception port bytes s
  | .forwardedFrameCompletion port => Sys2Proof.Machine.execForwardedFrameCompletion port s
  | .noticeFrameCompletion => Sys2Proof.Machine.execNoticeFrameCompletion s
  | .advisoryFrameCompletion => Sys2Proof.Machine.execAdvisoryFrameCompletion s
  | .mgmtReplyCompletion => Sys2Proof.Machine.execMgmtReplyCompletion s
  | .freshnessTimeout turbine => Sys2Proof.Machine.execFreshnessTimeout turbine s
  | .resendTimerExpiry turbine => Sys2Proof.Machine.execResendTimerExpiry turbine s
  | .channelIdleTimerExpiry channel => Sys2Proof.Machine.execChannelIdleTimerExpiry channel s
  | .gridIdleTimerExpiry point => Sys2Proof.Machine.execGridIdleTimerExpiry point s
  | .holdoverTimerExpiry => Sys2Proof.Machine.execHoldoverTimerExpiry s
  | .minuteEvent => Sys2Proof.Machine.execMinuteEvent s
  | .msOfDayWrap => Sys2Proof.Machine.execMsOfDayWrap s
  | .unknownRequestCode code rq => Sys2Proof.Machine.execUnknownRequestCode code rq s
  | .identify rq => Sys2Proof.Machine.execIdentify rq s
  | .stageEntries rq => Sys2Proof.Machine.execStageEntries rq s
  | .readStaged rq => Sys2Proof.Machine.execReadStaged rq s
  | .readCurrent rq => Sys2Proof.Machine.execReadCurrent rq s
  | .discardStaged rq => Sys2Proof.Machine.execDiscardStaged rq s
  | .apply rq => Sys2Proof.Machine.execApply rq s
  | .suspend rq => Sys2Proof.Machine.execSuspend rq s
  | .resume rq => Sys2Proof.Machine.execResume rq s
  | .readStatus rq => Sys2Proof.Machine.execReadStatus rq s
  | .readResults rq => Sys2Proof.Machine.execReadResults rq s
  | .fetchNotices rq => Sys2Proof.Machine.execFetchNotices rq s
  | .setDeliveryMode rq => Sys2Proof.Machine.execSetDeliveryMode rq s
  | .withdrawNotices rq => Sys2Proof.Machine.execWithdrawNotices rq s
  | .captureChannel rq => Sys2Proof.Machine.execCaptureChannel rq s
  | .readCapture rq => Sys2Proof.Machine.execReadCapture rq s
  | .releaseCapture rq => Sys2Proof.Machine.execReleaseCapture rq s
  | .done rq => Sys2Proof.Machine.execDone rq s
  | .defer rq => Sys2Proof.Machine.execDefer rq s
  | .iceOverride rq => Sys2Proof.Machine.execIceOverride rq s
  | .baselineReset rq => Sys2Proof.Machine.execBaselineReset rq s
  | .restartFull rq => Sys2Proof.Machine.execRestartFull rq s
  | .restartProcessing rq => Sys2Proof.Machine.execRestartProcessing rq s

end Sys2Proof.Machine
end

