-- ==== Sys2Proof/WellFormed.lean ====
section
/-! DEFINITION. Which commands can reach the part. -/

namespace Sys2Proof

/-- The longest argument run a MGMT_REQ payload can carry: the payload length is two bytes, less request code and
request tag (R211, section 11.3). -/
def maxArgs : Nat := 65532

/-- A request's arguments fit a payload. -/
def Request.wf (rq : Request) : Bool := decide (rq.args.length ≤ maxArgs)

/-- A command can reach the part: an unknown request code is the code of no request (R198), and a request fits its
frame. Bytes received may be any: a frame that is not good is a form of FRAME_RECEPTION (R184). -/
def Instr.wf : Instr → Bool
  | .powerOn _ | .resetInputHeldLow | .frameReception _ _ | .forwardedFrameCompletion _ | .noticeFrameCompletion
  | .advisoryFrameCompletion | .mgmtReplyCompletion | .freshnessTimeout _ | .resendTimerExpiry _
  | .channelIdleTimerExpiry _ | .gridIdleTimerExpiry _ | .holdoverTimerExpiry | .minuteEvent | .msOfDayWrap => true
  | .unknownRequestCode code rq => (Machine.RequestKind.ofCode code).isNone && rq.wf
  | .identify rq | .stageEntries rq | .readStaged rq | .readCurrent rq | .discardStaged rq | .apply rq | .suspend rq
  | .resume rq | .readStatus rq | .readResults rq | .fetchNotices rq | .setDeliveryMode rq | .withdrawNotices rq
  | .captureChannel rq | .readCapture rq | .releaseCapture rq | .done rq | .defer rq | .iceOverride rq
  | .baselineReset rq | .restartFull rq | .restartProcessing rq => rq.wf

end Sys2Proof
end

