-- ==== Sys2Proof/Safety.lean ====
section
/-! DEFINITION. The terms claims are stated in: what the arbiters may touch, what the analysis blocks leave alone,
when a request is taken at once, entries in range, and the invariants of a sound state. -/

namespace Sys2Proof.Machine

/-! ### Frames of claims -/

/-- A port as far as the arbiters leave it alone: its health counter (R187, R189). -/
def PortState.hideFrames (x : PortState) : PortState := { PortState.init with health := x.health }

/-- A state with everything hidden that the two egress arbiters may touch as they choose: buffers, transmissions and
run counts, the notice in transmission, and each turbine's advisory mechanism (R15, R176, R187). Two states that agree
under it agree in every other field. -/
def State.hideFrames (s : State) : State :=
  { s with
    link := { field := s.link.field.hideFrames, station := s.link.station.hideFrames }
    notices := { s.notices with sending := none }
    turbines := tabulate 8 fun t => { s.turbines[t] with advisory := .quiet } }

/-- What the analysis blocks, the notice queue and the capture unit never write (00_scope.md, Block diagram). -/
structure Shell where
  resetLow : Bool
  node : BitVec 6
  link : Link
  clock : Clock
  minuteTaken : Nat
  tables : Tables
  staged : Staged
  mgmt : Mgmt
  generation : Nat
  pending : List Instr
deriving DecidableEq, Repr

def State.shell (s : State) : Shell :=
  { resetLow := s.resetLow, node := s.node, link := s.link, clock := s.clock, minuteTaken := s.minuteTaken,
    tables := s.tables, staged := s.staged, mgmt := s.mgmt, generation := s.generation, pending := s.pending }

/-! ### Frames handed to a target -/

/-- A good frame of kind code `kind` whose entry is `e`, which feeds `feed`: what the field port brings to a target
(R22, R23). -/
abbrev State.hands (s : State) (kind : Nat) (bytes payload : List Byte) (e : Fin 64) (feed : StreamFeed) : Prop :=
  s.resetLow = false ∧ frameGood bytes = true ∧ at8 bytes 2 = kind ∧
    payload = (bytes.drop 6).take (bytes.length - 8) ∧
    s.tables.classify (BitVec.ofNat 6 (at8 bytes 1)) (BitVec.ofNat 8 (at8 bytes 3)) = some e ∧
    s.tables.streams[e].feed = feed

/-- The decimated samples of input samples that follow an incomplete group, each with whether a filled sample
contributed, and the group they leave incomplete (R30, R32). -/
def decimated (d : Decimation) : List (Int × Bool) → List (Int × Bool) → List (Int × Bool) × List (Int × Bool)
  | group, [] => ([], group)
  | group, x :: rest =>
    if d.size ≤ (group ++ [x]).length then
      (d.output (group ++ [x]) :: (decimated d [] rest).1, (decimated d [] rest).2)
    else decimated d (group ++ [x]) rest

/-- The newest 2048 decimated samples (R33). -/
def newestRing (l : List Int) : List Int := l.drop (l.length - 2048)

/-- A point whose block takes these triples from its index on, without completing, under hysteresis `h` (R110, R113,
R117). -/
def GridPoint.gather (h : Nat) (xs : List Triple) (x : GridPoint) : GridPoint :=
  { x with
    index := x.index + xs.length
    acc := tabulate 3 fun q => (xs.zipIdx x.index).foldl (fun a y => PhaseAcc.step y.2 (y.1.phase q) a) x.acc[q]
    detectors := tabulate 3 fun q =>
      (xs.zipIdx x.index).foldl (fun d y => d.step h y.2 (y.1.phase q)) x.detectors[q] }

/-- What the close of a window leaves in its result (R57, R59 to R64): a window of context `w` and accumulated instance
`z`, of `n` samples, at a band `b` on a channel of turbine `u`, a MEASURE window being classed against `set`. -/
def State.Judges (s : State) (u : Fin 8) (n : Nat) (b : BandEntry) (w : WindowContext) (z : Inst) (set : ThresholdSet)
    (r : InstResult) : Prop :=
  r.gen = w.gen ∧ r.closeTime = s.clock.counter ∧ r.ms = z.sumSq / n ∧
    r.net = (if b.floor < r.ms then r.ms - b.floor else 0) ∧
    (w.void = true → r.verdict = .void) ∧
    (w.void = false → w.fresh = false → r.verdict = .unevaluated .noStatus) ∧
    (w.void = false → w.fresh = true → w.producing = false →
      r.verdict = .unevaluated (if s.turbines[u].status.op = .service then .service else .notRunning)) ∧
    (∀ lo hi, w.void = false → w.fresh = true → w.producing = true → w.speed = some (lo, hi) →
      r.verdict = if b.speedMin ≤ lo ∧ hi ≤ b.speedMax then .classed else .unevaluated .offSpeed) ∧
    (b.role = .measure → r.crossings = none ∧ ∃ th, th = b.thresholds set ∧
      r.cls = some (([th.t1, th.t2, th.t3].filter fun l => l ≤ r.net).length, set)) ∧
    (b.role = .track → r.crossings = some z.crossings ∧ r.cls = none) ∧
    r.clipCount = z.clipCount ∧ r.satCount = z.satCount ∧ r.speed = w.speed ∧
    (r.marks.clipped = true ↔ 0 < z.clipCount) ∧ (r.marks.saturated = true ↔ 0 < z.satCount) ∧
    (r.marks.disturbed = true ↔ s.tables.turbines[u].valid = true ∧
      ∃ p, s.tables.turbines[u].gridPoint = some p ∧ s.points[p].alarm = .alarm)

/-! ### The checks of an Apply (R79, R202) -/

/-- Entry `j` is valid and shares its channel, point or turbine with a lower-numbered valid entry. -/
def Tables.Conflicts (t : Tables) (j : Fin 64) : Prop :=
  t.streams[j].valid = true ∧ (∀ x, t.streams[j].feed ≠ .ignore x) ∧
    ∃ i : Fin 64, i < j ∧ t.streams[i].valid = true ∧ t.streams[i].feed = t.streams[j].feed

/-- Channel `c` binds a band that is not valid. -/
def Tables.BindsInvalid (t : Tables) (c : Fin 24) : Prop :=
  ∃ (p : Fin 4) (b : Fin 32), t.channels[c].bindings[p] = some b ∧ t.bands[b].valid = false

/-- Ice Table entry `k` is valid and lists an instance that is not bound to a valid TRACK band on a channel naming its
turbine. -/
def Tables.TracksUnsound (t : Tables) (k : Fin 8) : Prop :=
  t.ice[k].valid = true ∧ ∃ i ∈ t.ice[k].track, ¬ (t.channels[instChannel i].turbine = k ∧
    ∃ b, t.channels[instChannel i].bindings[instPos i] = some b ∧ t.bands[b].valid = true ∧ t.bands[b].role = .track)

/-! ### Requests -/

/-- A request is taken in the command that brings it: the part runs, has a node address, holds no reply and no
request waits (R190, R197). -/
def State.ready (s : State) : Prop := s.resetLow = false ∧ s.node ≠ 63#6 ∧ s.mgmt.queue = [] ∧ s.mgmt.reply = none

/-- The state in which a request has been answered and its reply is held (R197). -/
def State.answered (s : State) (code : Byte) (rq : Request) (a : Answer) : State :=
  { s with mgmt := { s.mgmt with
    reply := some { request := ⟨code, rq⟩, answer := a, stamp := ⟨s.clock.day, s.clock.ms, s.clock.sync⟩ } } }

/-- The request a command brings to the management unit, with its code of section 11.3; none for the other rows. -/
def requestOf : Instr → Option QueuedRequest
  | .unknownRequestCode code rq => some ⟨code, rq⟩
  | .identify rq => some ⟨0x01, rq⟩
  | .stageEntries rq => some ⟨0x10, rq⟩
  | .readStaged rq => some ⟨0x11, rq⟩
  | .readCurrent rq => some ⟨0x12, rq⟩
  | .discardStaged rq => some ⟨0x13, rq⟩
  | .apply rq => some ⟨0x14, rq⟩
  | .suspend rq => some ⟨0x20, rq⟩
  | .resume rq => some ⟨0x21, rq⟩
  | .readStatus rq => some ⟨0x30, rq⟩
  | .readResults rq => some ⟨0x31, rq⟩
  | .fetchNotices rq => some ⟨0x40, rq⟩
  | .setDeliveryMode rq => some ⟨0x41, rq⟩
  | .withdrawNotices rq => some ⟨0x42, rq⟩
  | .captureChannel rq => some ⟨0x50, rq⟩
  | .readCapture rq => some ⟨0x51, rq⟩
  | .releaseCapture rq => some ⟨0x52, rq⟩
  | .done rq => some ⟨0x60, rq⟩
  | .defer rq => some ⟨0x61, rq⟩
  | .iceOverride rq => some ⟨0x70, rq⟩
  | .baselineReset rq => some ⟨0x71, rq⟩
  | .restartFull rq => some ⟨0xF0, rq⟩
  | .restartProcessing rq => some ⟨0xF1, rq⟩
  | .powerOn _ | .resetInputHeldLow | .frameReception _ _ | .forwardedFrameCompletion _ | .noticeFrameCompletion
  | .advisoryFrameCompletion | .mgmtReplyCompletion | .freshnessTimeout _ | .resendTimerExpiry _
  | .channelIdleTimerExpiry _ | .gridIdleTimerExpiry _ | .holdoverTimerExpiry | .minuteEvent | .msOfDayWrap => none

/-- The argument bytes a request code requires where their number is fixed (R214). -/
def argBytes : Instr → Option Nat
  | .identify _ | .discardStaged _ | .apply _ | .suspend _ | .resume _ | .readStatus _ | .restartFull _
  | .restartProcessing _ => some 0
  | .fetchNotices _ | .setDeliveryMode _ | .withdrawNotices _ | .captureChannel _ | .releaseCapture _ | .done _
  | .iceOverride _ | .baselineReset _ => some 1
  | .readCapture _ => some 2
  | .readStaged _ | .readCurrent _ | .defer _ => some 3
  | .stageEntries _ | .readResults _ | .unknownRequestCode _ _ | .powerOn _ | .resetInputHeldLow | .frameReception _ _
  | .forwardedFrameCompletion _ | .noticeFrameCompletion | .advisoryFrameCompletion | .mgmtReplyCompletion
  | .freshnessTimeout _ | .resendTimerExpiry _ | .channelIdleTimerExpiry _ | .gridIdleTimerExpiry _
  | .holdoverTimerExpiry | .minuteEvent | .msOfDayWrap => none

/-! ### Entries in range (sections 1.1, 2.1, 2.2, 3.1, 4.1, 5.1, 6.1, 8.1) -/

def ChannelEntry.InRange (e : ChannelEntry) : Prop :=
  256 ≤ e.window ∧ e.window ≤ 16384 ∧ e.window % 64 = 0 ∧ e.settle ≤ 4032 ∧ e.settle % 64 = 0 ∧ 1 ≤ e.frameSamples ∧
    e.frameSamples ≤ 64 ∧ e.gapTolerance ≤ 256

def TurbineEntry.InRange (e : TurbineEntry) : Prop :=
  e.controller.toNat ≤ 62 ∧ e.noticeMask &&& turbineClasses = e.noticeMask

def GridEntry.InRange (e : GridEntry) : Prop :=
  e.hzc ≤ 8191 ∧ e.p1min < 2 ^ 48 ∧ e.lthd ≤ 65535 ∧ (∀ k : Fin 30, e.limits[k] ≤ 65535) ∧ 1 ≤ e.persistence ∧
    e.persistence ≤ 15 ∧ 1 ≤ e.clear ∧ e.clear ≤ 15

def GlobalRecord.InRange (e : GlobalRecord) : Prop := e.mask &&& allClasses = e.mask ∧ e.graceDays ≤ 365

/-- A signed 16-bit value. -/
def Fits16 (v : Int) : Prop := -32768 ≤ v ∧ v ≤ 32767

def Biquad.InRange (q : Biquad) : Prop := Fits16 q.b0 ∧ Fits16 q.b1 ∧ Fits16 q.b2 ∧ Fits16 q.a1 ∧ Fits16 q.a2

def Thresholds.InRange (t : Thresholds) : Prop := t.t1 ≤ t.t2 ∧ t.t2 ≤ t.t3 ∧ t.t3 ≤ 2 ^ 30

def BandEntry.InRange (e : BandEntry) : Prop :=
  (∀ k : Fin 4, e.sections[k].InRange) ∧ 1 ≤ e.clip ∧ e.clip ≤ 32767 ∧ e.floor ≤ 2 ^ 30 ∧ e.normal.InRange ∧
    e.ice.InRange ∧ e.speedMin ≤ e.speedMax ∧ e.speedMax ≤ 30000 ∧ 1 ≤ e.persistence ∧ e.persistence ≤ 15 ∧
    1 ≤ e.clear ∧ e.clear ≤ 15 ∧ e.hysteresis ≤ 4095

/-- A temperature field in its range. -/
def TempInRange (v : Int) : Prop := -500 ≤ v ∧ v ≤ 600

def IceEntry.InRange (e : IceEntry) : Prop :=
  1 ≤ e.track.length ∧ e.track.length ≤ 3 ∧ e.track.Nodup ∧ TempInRange e.ticeMax ∧ TempInRange e.tthaw ∧
    TempInRange e.tlearn ∧ e.rhMin ≤ 100 ∧ 1 ≤ e.dmin16 ∧ e.dmin16 ≤ 4095 ∧ 1 ≤ e.nsuspect ∧ e.nsuspect ≤ e.niced ∧
    e.niced ≤ 63 ∧ 1 ≤ e.nthaw ∧ e.nthaw ≤ 255 ∧ 1 ≤ e.nclear ∧ e.nclear ≤ 255 ∧ e.rotorMin ≤ 3000 ∧
    (∀ b : Fin 3, ∀ v, e.load[b] = some v → b.1 < e.track.length ∧ v ≤ 2 ^ 20)

def UsageSource.InRange : UsageSource → Prop
  | .none => True
  | .vib ids w => 1 ≤ ids.length ∧ ids.length ≤ 4 ∧ ids.Nodup ∧ ∀ k : Fin 4, w[k] ≤ 255
  | .run w | .grid _ w | .ice w => w ≤ 255

def MaintLoad.InRange (e : MaintLoad) : Prop :=
  1 ≤ e.interval ∧ e.interval ≤ 3650 ∧ e.dueDay ≤ 65535 ∧ e.lead ≤ 365 ∧ e.usageLimit ≤ usageMax ∧
    (∀ v, e.usage = some v → v ≤ usageMax) ∧ e.source.InRange ∧ ∀ v, e.lastDone = some v → v ≤ 65535

/-! ### Invariants -/

/-- A port within its sizes (R186, R187, R189). -/
def PortState.Bounded (x : PortState) : Prop :=
  x.buffer.length ≤ 16 ∧ x.runCount ≤ 8 ∧ x.health ≤ 255

/-- Both ports and the request queue within their sizes (R186, R187, R189, R197). -/
def State.LinkBounded (s : State) : Prop :=
  s.link.field.Bounded ∧ s.link.station.Bounded ∧ s.mgmt.queue.length ≤ 4

/-- The notice queue in its form (R172, R174, R176): at most 48, by priority, no number twice, the next number
unused, and the notice in transmission among those queued. -/
def NoticeQueue.Sound (q : NoticeQueue) : Prop :=
  q.queue.length ≤ 48 ∧ q.queue.Pairwise (fun a b => a.offer.priority ≤ b.offer.priority) ∧
    (q.queue.map Notice.number).Nodup ∧ (∀ x ∈ q.queue, x.number < 65536) ∧ q.next < 65536 ∧
    (∀ x ∈ q.queue, x.number ≠ q.next) ∧ ∀ k, q.sending = some k → k ∈ q.queue.map Notice.number

/-- A maintenance entry within the bounds of R153. -/
def MaintItem.Sound (e : MaintItem) : Prop := e.deferrals ≤ 3 ∧ e.dueDay ≤ e.baseDue + 90 * e.deferrals

/-- A turbine's curtail request against its ice state (R94): NONE exactly when it is neither ICED nor THAWING. -/
def State.CurtailSound (s : State) : Prop :=
  ∀ t : Fin 8, s.turbines[t].curtail = .none ↔ (s.ice[t].state ≠ .iced ∧ s.ice[t].state ≠ .thawing)

/-- A slot that holds a capture: post count, and as many samples as pre and post count say (R157, R160, R161). -/
def Slot.Sound (x : Slot) : Prop :=
  x.state ≠ .free → x.pre ≤ 2048 ∧ x.post ≤ 2048 ∧ (x.state = .filling → x.post < 2048) ∧
    x.samples.length = x.pre + x.post

/-- Rings and slots within their sizes, and no channel filling two slots (R33, R159 to R161). -/
def State.CaptureSound (s : State) : Prop :=
  (∀ c : Fin 24, s.channels[c].ring.length ≤ 2048) ∧ (∀ k : Fin 2, s.slots[k].Sound) ∧
    ¬ (s.slots[(0 : Fin 2)].state = .filling ∧ s.slots[(1 : Fin 2)].state = .filling ∧
        s.slots[(0 : Fin 2)].channel = s.slots[(1 : Fin 2)].channel)

/-- The current tables never hold two valid Stream Table entries with one target (R202). -/
def Tables.TargetsUnique (t : Tables) : Prop :=
  ∀ i j : Fin 64, i ≠ j → t.streams[i].valid = true → t.streams[j].valid = true →
    t.streams[i].feed = t.streams[j].feed → ∃ x, t.streams[i].feed = .ignore x

end Sys2Proof.Machine
end

