-- ==== Sys2Proof/Certificates/Slice0/Obligations.lean ====
section
/-! DEFINITION. The statements for the provers. `hideFrames` (Safety.lean) hides what the two egress arbiters may touch
after any command: an equation under it is a frame over every other field of State. -/

open Sys2Proof Sys2Proof.Machine

/-! ### Steps and pins -/

/-- A step runs the front command on the state with the queue's rest. -/
def Obligations.StepRunsFrontCommand : Prop :=
  ∀ (c : Instr) (rest : List Instr) (s : State),
    step { s with pending := c :: rest } = exec c { s with pending := rest }

/-- Every command has an effect (no fault, no refusal) and leaves the waiting commands alone. -/
def Obligations.CommandsLeaveTheQueue : Prop :=
  ∀ (c : Instr) (s : State), ∃ t, exec c s = .next t ∧ t.pending = s.pending

/-- With no command waiting, a step is one millisecond (the MODEL's choice, log 2): the counter of R194 advances, and
the clock runs with it unless UNSET, wrapping at the end of the day (R191). -/
def Obligations.IdleStepPassesAMillisecond : Prop :=
  ∀ s : State, s.pending = [] → s.resetLow = false → s.clock.counter < 2 ^ 48 - 1 → s.clock.ms < 86400000 →
    ∃ t, step s = .next t ∧ t.pending = [] ∧ t.tables = s.tables ∧ t.clock.counter = s.clock.counter + 1 ∧
      (s.clock.sync = .unset → t.clock.ms = s.clock.ms ∧ t.clock.day = s.clock.day) ∧
      (s.clock.sync ≠ .unset → s.clock.ms < 86399999 → t.clock.ms = s.clock.ms + 1 ∧ t.clock.day = s.clock.day) ∧
      (s.clock.sync ≠ .unset → s.clock.ms = 86399999 → t.clock.ms = 0 ∧ t.clock.day = (s.clock.day + 1) % 65536)

/-- R208: what the management unit holds after power-on. -/
def Obligations.PowerOnManagementUnit : Prop :=
  ∀ (straps : BitVec 6) (s : State), ∃ t, exec (.powerOn straps) s = .next t ∧
    t.generation = 0 ∧ t.landing = false ∧ t.mgmt.queue = [] ∧ t.mgmt.reply = none ∧
    t.staged.tables = Tables.init ∧ (∀ n : Fin 96, t.staged.loads[n] = MaintLoad.init ∧ t.staged.marks[n] = false) ∧
    t.channelReport = false ∧ t.gridReport = false ∧
    t.errors = ⟨false, false, false, false, false, false, false⟩ ∧ t.analysis = .active

/-- What every other block holds after power-on, from any state (R19, R44, R77, R103, R129, R155, R168, R182, R196). -/
def Obligations.PowerOnEveryBlock : Prop :=
  ∀ (straps : BitVec 6) (s : State), ∃ t, exec (.powerOn straps) s = .next t ∧
    t.resetLow = false ∧ t.node = straps ∧ t.pending = s.pending ∧
    t.clock = { day := 0, ms := 0, sync := .unset, holdoverExpiry := none, lastTime := none, counter := 0 } ∧
    (∀ p, t.link.port p = { buffer := [], sending := none, runCount := 0, health := 0 }) ∧
    t.notices = { queue := [], next := 0, sending := none } ∧ t.scheduleDay = none ∧
    t.tables.global = { mode := .send, dest := 63, mask := 0, graceDays := 0 } ∧
    (∀ e : Fin 64, t.tables.streams[e].valid = false ∧ t.counts[e] = ⟨0, 0⟩) ∧
    (∀ b : Fin 32, t.tables.bands[b].valid = false) ∧
    (∀ k : Fin 8, t.tables.turbines[k].valid = false ∧ t.tables.ice[k].valid = false ∧ t.tables.ice[k].track = [0] ∧
      t.turbines[k].freshness = .none ∧ t.turbines[k].status = ⟨.stopped, 0, 0, 0, 0, 0⟩ ∧
      t.turbines[k].lastStatus = 0 ∧ t.turbines[k].curtail = .none ∧ t.turbines[k].worst = 0 ∧
      t.turbines[k].advisory = .quiet ∧ t.ice[k].state = .noData ∧ t.ice[k].evidence = 0 ∧ t.ice[k].clear = 0 ∧
      t.ice[k].thaw = 0 ∧ ∀ b : Fin 3, t.ice[k].blades[b] = { b16 := 0, status := .none, lastC := none }) ∧
    (∀ c : Fin 24, t.channels[c].state = .unbound ∧ t.channels[c].gen = 0 ∧ t.channels[c].marked = false ∧
      t.channels[c].ring = [] ∧ t.channels[c].expect = none ∧ t.channels[c].lastInput = none ∧
      t.channels[c].idleExpiry = none) ∧
    (∀ i : Fin 96, t.insts[i].sumSq = 0 ∧ t.insts[i].clipCount = 0 ∧ t.insts[i].satCount = 0 ∧
      t.insts[i].crossings = 0 ∧ t.insts[i].armed = false ∧ t.insts[i].window = none ∧ t.insts[i].lastResult = none ∧
      t.insts[i].alarm = ⟨0, 0, none, 0, none⟩ ∧ t.insts[i].boundSinceReset = false) ∧
    (∀ p : Fin 2, t.tables.grid[p].valid = false ∧ t.points[p].intake = .unbound ∧ t.points[p].index = 0 ∧
      t.points[p].alarm = .normal ∧ t.points[p].raiseCount = 0 ∧ t.points[p].clearCount = 0 ∧
      t.points[p].sync = .none ∧ t.points[p].lastResult = none ∧ t.slots[p].state = .free) ∧
    ∀ n : Fin 96, t.items[n].valid = false ∧ t.items[n].state = .disabled ∧ t.items[n].usage = 0 ∧
      t.items[n].deferrals = 0 ∧ t.items[n].source = .none

/-- R216: taking the reset input low cuts both frames in transmission. That the rest stands, and that nothing acts
until the next release, is the MODEL's reading (log 8, 9). -/
def Obligations.ResetInputHeldLow : Prop :=
  (∀ s : State, exec .resetInputHeldLow s = .next { s with
    resetLow := true
    link := { field := { s.link.field with sending := none }, station := { s.link.station with sending := none } } }) ∧
  ∀ (c : Instr) (s : State), s.resetLow = true → (∀ straps, c ≠ .powerOn straps) → c ≠ .resetInputHeldLow →
    exec c s = .next s

/-! ### Reception -/

/-- R184, R189: a frame that fails the size, length or CRC check moves the health counter of its port by 8 and reaches
nothing else, but for the LINK notice of a change of health state: a port that transmits stands, no buffer gains a
frame, and no frame that was not buffered begins to be forwarded. -/
def Obligations.BadFrameReachesHealthOnly : Prop :=
  ∀ (p : Port) (bytes : List Byte) (s u : State), s.resetLow = false →
    (bytes.length < 8 ∨ bytes.length ≠ 8 + at16 bytes 4 ∨
      bytes.drop (bytes.length - 2) ≠ crcBytes (bytes.take (bytes.length - 2))) →
    u = s.modPort p (fun x => { x with health := min 255 (x.health + 8) }) →
    ∃ t, exec (.frameReception p bytes) s = .next t ∧
      (∀ q, (s.link.port q).sending.isSome = true → t.link.port q = u.link.port q) ∧
      (∀ q, (s.link.port q).sending = none →
        ((t.link.port q).buffer = (s.link.port q).buffer ∧ ∀ f, (t.link.port q).sending ≠ some (.forwarded f)) ∨
          ∃ f, (s.link.port q).buffer = f :: (t.link.port q).buffer ∧ (t.link.port q).sending = some (.forwarded f)) ∧
      (healthOf (u.link.port p).health = healthOf (s.link.port p).health → t.hideFrames = u.hideFrames) ∧
      (healthOf (u.link.port p).health ≠ healthOf (s.link.port p).health →
        t.hideFrames = (offer
          { cls := .link, priority := 3, turbine := none, subject := .port p,
            old := BitVec.ofNat 8 (healthOf (s.link.port p).health).code,
            new := BitVec.ofNat 8 (healthOf (u.link.port p).health).code, value := .absent, gen := s.generation,
            accessHold := false, noBaseline := false } u).hideFrames)

/-- R184 to R187: a good frame of no known kind is used by no block and forwarded byte for byte by the other port: with
that port free, its buffer empty and no own frame waiting, its transmission begins at once; while that port transmits,
the frame joins the tail of its buffer, or is dropped with FORWARD_OVERFLOW behind 16 (R186). -/
def Obligations.UnknownKindOnlyForwarded : Prop :=
  ∀ (p q : Port) (bytes : List Byte) (s : State), s.resetLow = false → q = otherPort p → frameGood bytes = true →
    at8 bytes 2 ∉ [0x01, 0x02, 0x03, 0x10, 0x20, 0x21, 0x30, 0x31] → (s.link.port p).health ≤ 63 →
    ∃ t, exec (.frameReception p bytes) s = .next t ∧
      (t.link.port p).health = (s.link.port p).health - 1 ∧ (t.link.port q).health = (s.link.port q).health ∧
      t.hideFrames = ({ s with link := t.link, errors := t.errors }).hideFrames ∧
      ((s.link.port q).sending = none → (s.link.port q).buffer = [] → s.ownWaiting q = false →
        t.link.port q = { s.link.port q with sending := some (.forwarded bytes), runCount := 0 } ∧
        t.errors = s.errors) ∧
      ((s.link.port q).sending.isSome = true → (s.link.port q).buffer.length < 16 →
        t.link.port q = { s.link.port q with buffer := (s.link.port q).buffer ++ [bytes] } ∧ t.errors = s.errors) ∧
      ((s.link.port q).sending.isSome = true → 16 ≤ (s.link.port q).buffer.length →
        t.link.port q = s.link.port q ∧ t.errors = { s.errors with forwardOverflow := true })

/-- R192: a TIME frame on the station port sets the clock to LOCKED and restarts its timer, and the schedule day
follows (R140). -/
def Obligations.TimeFrameSetsClock : Prop :=
  ∀ (bytes payload : List Byte) (s : State), s.resetLow = false → frameGood bytes = true → at8 bytes 2 = 0x10 →
    payload = (bytes.drop 6).take (bytes.length - 8) → payload.length = 6 → at32 payload 2 < 86400000 →
    ∃ t, exec (.frameReception .station bytes) s = .next t ∧
      t.clock = { day := at16 payload 0, ms := at32 payload 2, sync := .locked,
                  holdoverExpiry := some (s.clock.counter + 3000), lastTime := some s.clock.counter,
                  counter := s.clock.counter } ∧
      t.scheduleDay = (if s.clock.sync = .unset then some (at16 payload 0)
        else if s.clock.day < at16 payload 0 then s.scheduleDay.map fun d => max d (at16 payload 0)
        else s.scheduleDay) ∧
      t.tables = s.tables ∧ t.staged = s.staged ∧ t.channels = s.channels ∧ t.insts = s.insts ∧ t.ice = s.ice ∧
      t.points = s.points ∧ t.slots = s.slots ∧ t.mgmt = s.mgmt ∧ t.generation = s.generation

/-- R3 to R5, R213: a STATUS frame that its entry hands to a valid turbine is stored clamped and refreshes it. -/
def Obligations.StatusFrameRefreshesTurbine : Prop :=
  ∀ (bytes payload : List Byte) (e : Fin 64) (k : Fin 8) (s : State), s.resetLow = false → frameGood bytes = true →
    at8 bytes 2 = 0x03 → payload = (bytes.drop 6).take (bytes.length - 8) → payload.length = 10 →
    s.tables.classify (BitVec.ofNat 6 (at8 bytes 1)) (BitVec.ofNat 8 (at8 bytes 3)) = some e →
    s.tables.streams[e].feed = .turbineStatus k → s.tables.turbines[k].valid = true →
    ∃ t, exec (.frameReception .field bytes) s = .next t ∧
      t.turbines[k].freshness = .fresh ∧ t.turbines[k].freshExpiry = s.clock.counter + 5000 ∧
      t.turbines[k].lastStatus = s.clock.counter ∧
      t.turbines[k].status =
        { op := match at8 payload 0 with
            | 0 => .stopped | 1 => .idling | 2 => .producing | 3 => .curtailed | 5 => .service | _ => .fault
          rotor := min 3000 (at16 payload 1), shaft := min 30000 (at16 payload 3)
          ambient := max (-500) (min 600 (sat16 payload 5)), humidity := min 100 (at8 payload 7)
          power := min 20000 (at16 payload 8) } ∧
      t.turbines[k].curtail = s.turbines[k].curtail ∧ t.turbines[k].worst = s.turbines[k].worst ∧
      (∀ j : Fin 8, j ≠ k → t.turbines[j].freshness = s.turbines[j].freshness ∧
        t.turbines[j].status = s.turbines[j].status) ∧
      t.counts[e].framesTaken = min 65535 (s.counts[e].framesTaken + 1) ∧ t.channels = s.channels ∧ t.ice = s.ice ∧
      t.items = s.items ∧ t.slots = s.slots

/-- R28: a late SAMPLE frame restarts the idle timer of a channel in a run and changes nothing else there. -/
def Obligations.LateSampleFrameIgnored : Prop :=
  ∀ (bytes payload : List Byte) (e : Fin 64) (c : Fin 24) (x : Byte) (s : State), s.resetLow = false →
    frameGood bytes = true → at8 bytes 2 = 0x01 → payload = (bytes.drop 6).take (bytes.length - 8) →
    2 ≤ payload.length → s.tables.classify (BitVec.ofNat 6 (at8 bytes 1)) (BitVec.ofNat 8 (at8 bytes 3)) = some e →
    s.tables.streams[e].feed = .vibChannel c → (s.channels[c].state = .settling ∨ s.channels[c].state = .running) →
    s.channels[c].expect = some x → 128 ≤ (at8 payload 0 + 256 - x.toNat) % 256 →
    ∃ t, exec (.frameReception .field bytes) s = .next t ∧
      t.channels[c] = { s.channels[c] with idleExpiry := some (s.clock.counter + 2000) } ∧
      (∀ d : Fin 24, d ≠ c → t.channels[d] = s.channels[d]) ∧ t.counts = s.counts ∧ t.insts = s.insts ∧
      t.slots = s.slots ∧ t.ice = s.ice ∧ t.items = s.items

/-- R28, R30, R32, R33, R36, R37: a well-sized SAMPLE frame handed to a channel in a run, in order, first of its run, or
with missing samples within the gap tolerance: those are filled ahead of its own samples, the frame is counted and
taken, its decimated samples enter ring and instances, and the settle or window progress goes on with them, up to the
sample that ends the settling or closes the window; of a frame whose samples run past that one, the counts and the
other channels alone are stated. R57 to R68: what the close leaves as result and alarm record. That in S2 and S4 only
the first sample of a group contributes to GAPPED is the MODEL's reading of R30 (log 19). -/
def Obligations.SampleFrameTaken : Prop :=
  ∀ (bytes payload : List Byte) (e : Fin 64) (c : Fin 24) (d fs : Nat) (x y : Channel) (ys group : List (Int × Bool))
    (s : State), s.hands 0x01 bytes payload e (.vibChannel c) → x = s.channels[c] → fs = x.config.entry.frameSamples →
    payload.length = 2 + 2 * fs → at8 payload 1 = fs → x.ring.length ≤ 2048 →
    (x.state = .settling ∨ x.state = .running) →
    d = x.expect.elim 0 (fun n => (at8 payload 0 + 256 - n.toNat) % 256) → d < 128 →
    d * fs ≤ x.config.entry.gapTolerance →
    (ys, group) = decimated x.config.entry.decimation x.group
      (List.replicate (d * fs) (x.lastInput.getD 0, true) ++ (samplesOf (payload.drop 2)).map fun v => (v, false)) →
    y = { x with
      idleExpiry := some (s.clock.counter + 2000), expect := some (BitVec.ofNat 8 (at8 payload 0 + 1))
      lastInput := (samplesOf (payload.drop 2)).getLast?, group := group
      ring := newestRing (x.ring ++ ys.map Prod.fst) } →
    ∃ t, exec (.frameReception .field bytes) s = .next t ∧
      t.counts = upd s.counts e (fun k =>
        { framesTaken := min 65535 (k.framesTaken + 1)
          gapEvents := if d = 0 then k.gapEvents else min 65535 (k.gapEvents + 1) }) ∧
      (∀ c' : Fin 24, c' ≠ c → t.channels[c'] = s.channels[c']) ∧
      (∀ i : Fin 96, instChannel i ≠ c → t.insts[i] = s.insts[i]) ∧
      (x.state = .settling → x.settleProgress + ys.length < x.config.entry.settle →
        t.channels[c] = { y with settleProgress := x.settleProgress + ys.length } ∧
        ∀ (i : Fin 96) (b : BandEntry), instChannel i = c → s.bandOf i = some b →
          t.insts[i] = ys.foldl (fun z v => z.settle b v.1) s.insts[i]) ∧
      (x.state = .running → x.windowProgress + ys.length < x.config.entry.window →
        t.channels[c] = { y with
          windowProgress := x.windowProgress + ys.length, gapped := x.gapped || ys.any Prod.snd } ∧
        ∀ (i : Fin 96) (b : BandEntry), instChannel i = c → s.bandOf i = some b →
          t.insts[i] = ys.foldl (fun z v => z.sample b v.1) s.insts[i]) ∧
      (x.state = .settling → x.settleProgress < x.config.entry.settle →
        x.settleProgress + ys.length = x.config.entry.settle →
        t.channels[c] = { y with
          state := .running, settleProgress := x.config.entry.settle, windowProgress := 0, gapped := false } ∧
        ∀ (i : Fin 96) (b : BandEntry), instChannel i = c → s.bandOf i = some b →
          t.insts[i].sumSq = 0 ∧ ∃ w, t.insts[i].window = some w ∧ w.gen = x.gen ∧ w.void = false) ∧
      (x.state = .running → x.windowProgress < x.config.entry.window →
        x.windowProgress + ys.length = x.config.entry.window → s.channelBound c = true → x.marked = false →
        x.gen = s.generation →
        t.channels[c] = { y with windowProgress := 0, gapped := false } ∧
        ∀ (i : Fin 96) (b : BandEntry) (w : WindowContext) (z : Inst) (u : Fin 8), instChannel i = c →
          s.bandOf i = some b → s.insts[i].window = some w →
          z = ys.foldl (fun z v => z.sample b v.1) s.insts[i] → u = x.config.entry.turbine →
          t.insts[i].sumSq = 0 ∧ (∃ w', t.insts[i].window = some w' ∧ w'.gen = x.gen ∧ w'.void = false) ∧
          ∃ r set, t.insts[i].lastResult = some r ∧ s.Judges u x.config.entry.window b w z set r ∧
            r.marks.gapped = (x.gapped || ys.any Prod.snd) ∧
            (b.iceRelaxed = false → set = .normal) ∧
            ((∀ (j : Fin 96) (b' : BandEntry), instChannel j = c → j < i → s.bandOf j = some b' → b'.role = .measure) →
              b.iceRelaxed = true →
              set = if s.ice[u].state = .iced ∨ s.ice[u].state = .thawing then .ice else .normal) ∧
            (∀ k, r.cls = some (k, set) → r.verdict = .classed →
              t.insts[i].alarm = s.insts[i].alarm.step k r.marks.disturbed b.persistence b.clear) ∧
            (b.role = .track ∨ r.verdict ≠ .classed → t.insts[i].alarm = s.insts[i].alarm))

/-- R36, R30: a well-sized SAMPLE frame that starts a run, where the settle count outlasts it: at an IDLE channel, and,
after missing samples beyond the gap tolerance, at a channel whose run is discarded. -/
def Obligations.SampleFrameStartsRun : Prop :=
  ∀ (bytes payload : List Byte) (e : Fin 64) (c : Fin 24) (fs : Nat) (x y : Channel) (ys group : List (Int × Bool))
    (s : State), s.hands 0x01 bytes payload e (.vibChannel c) → x = s.channels[c] → fs = x.config.entry.frameSamples →
    payload.length = 2 + 2 * fs → at8 payload 1 = fs → x.ring.length ≤ 2048 →
    (ys, group) = decimated x.config.entry.decimation []
      ((samplesOf (payload.drop 2)).map fun v => (v, false)) →
    ys.length < x.config.entry.settle →
    y = { x with
      state := .settling, idleExpiry := some (s.clock.counter + 2000)
      expect := some (BitVec.ofNat 8 (at8 payload 0 + 1)), lastInput := (samplesOf (payload.drop 2)).getLast?
      group := group, settleProgress := ys.length, windowProgress := 0 } →
    ∃ t, exec (.frameReception .field bytes) s = .next t ∧
      (∀ c' : Fin 24, c' ≠ c → t.channels[c'] = s.channels[c']) ∧
      (∀ i : Fin 96, instChannel i ≠ c → t.insts[i] = s.insts[i]) ∧
      (x.state = .idle →
        t.counts = upd s.counts e (fun k => { k with framesTaken := min 65535 (k.framesTaken + 1) }) ∧
        t.channels[c] = { y with streamIdle := false, ring := newestRing (x.ring ++ ys.map Prod.fst) }) ∧
      ∀ (n : Byte) (d : Nat), (x.state = .settling ∨ x.state = .running) → x.expect = some n →
        d = (at8 payload 0 + 256 - n.toNat) % 256 → 1 ≤ d → d < 128 → x.config.entry.gapTolerance < d * fs →
        s.channelBound c = true → x.marked = false → x.gen = s.generation →
        t.counts = upd s.counts e (fun k =>
          { framesTaken := min 65535 (k.framesTaken + 1), gapEvents := min 65535 (k.gapEvents + 1) }) ∧
        t.channels[c] = { y with gapped := false, ring := newestRing (ys.map Prod.fst) } ∧
        ∀ i : Fin 96, instChannel i = c → t.insts[i].window = none ∧ t.insts[i].sumSq = 0

/-- R108 to R110, R113, R117: what a GRID frame does at its point, by intake state, form and sequence number: taken into
the block from its index, late, or a gap event that discards the block and starts a new one, latched afresh. That the
frame of a gap event at a point marked to suspend is not taken, its run having ended, is the MODEL's reading of R108 and
R112 (log 39). -/
def Obligations.GridFrameAtPoint : Prop :=
  ∀ (bytes payload : List Byte) (e : Fin 64) (p : Fin 2) (n : Nat) (good : Prop) (x y z : GridPoint) (l : Latch)
    (xs : List Triple) (s : State), s.hands 0x02 bytes payload e (.gridPoint p) → x = s.points[p] →
    n = at8 payload 1 → (good ↔ 1 ≤ n ∧ n ≤ 32 ∧ payload.length = 2 + 6 * n) →
    xs = triplesOf (samplesOf (payload.drop 2)) →
    l = { hzc := s.tables.grid[p].hzc, order := s.tables.grid[p].order, p1min := s.tables.grid[p].p1min
          lthd := s.tables.grid[p].lthd, limits := s.tables.grid[p].limits, gen := s.generation } →
    y = { x with
      idleExpiry := some (s.clock.counter + 2000), expect := some (BitVec.ofNat 8 (at8 payload 0 + 1)) } →
    z = { y with
      intake := .assembling, index := 0, latch := some l, acc := Vector.replicate 3 (Vector.replicate 31 (0, 0))
      detectors := Vector.replicate 3 ⟨false, []⟩ } →
    ∃ t, exec (.frameReception .field bytes) s = .next t ∧ (∀ q : Fin 2, q ≠ p → t.points[q] = s.points[q]) ∧
      (good → xs.length = n) ∧
      (x.intake = .unbound ∨ x.intake = .suspended → t.points[p] = x ∧ t.counts = s.counts) ∧
      (x.intake = .idle → good → t.points[p] = z.gather l.hzc xs ∧
        t.counts = upd s.counts e (fun k => { k with framesTaken := min 65535 (k.framesTaken + 1) })) ∧
      (x.intake = .idle → ¬ good → t.points[p] = x ∧ t.counts = s.counts) ∧
      ∀ (m : Byte) (d : Nat), x.intake = .assembling → x.expect = some m →
        d = (at8 payload 0 + 256 - m.toNat) % 256 →
        (128 ≤ d ∨ payload.length < 2 → t.points[p] = { y with expect := x.expect } ∧ t.counts = s.counts) ∧
        (∀ k : Latch, x.latch = some k → good → d = 0 → x.index + n < 640 → t.points[p] = y.gather k.hzc xs) ∧
        (∀ k : Latch, x.latch = some k → good → d = 0 → x.index + n = 640 → x.marked = false →
          t.points[p].intake = .assembling ∧ t.points[p].expect = y.expect ∧ t.points[p].index = 0 ∧
          t.points[p].latch = some l ∧ t.points[p].lastResult = some (blockResult k (y.gather k.hzc xs).acc
            (y.gather k.hzc xs).detectors s.clock.counter)) ∧
        (good → d = 0 →
          t.counts = upd s.counts e (fun k => { k with framesTaken := min 65535 (k.framesTaken + 1) })) ∧
        (good → 1 ≤ d → d < 128 → x.marked = false → t.points[p] = z.gather l.hzc xs ∧
          t.counts = upd s.counts e (fun k =>
            { framesTaken := min 65535 (k.framesTaken + 1), gapEvents := min 65535 (k.gapEvents + 1) })) ∧
        (¬ good → 2 ≤ payload.length → d < 128 → x.marked = false → t.points[p] = z ∧
          t.counts = upd s.counts e (fun k => { k with gapEvents := min 65535 (k.gapEvents + 1) })) ∧
        ((good ∧ 1 ≤ d ∨ ¬ good ∧ 2 ≤ payload.length) → d < 128 → x.marked = true →
          t.points[p].intake = .suspended ∧ t.points[p].expect = none ∧ t.points[p].idleExpiry = none ∧
          t.points[p].index = 0 ∧ t.points[p].latch = none ∧ t.points[p].lastResult = x.lastResult ∧
          t.counts = upd s.counts e (fun k => { k with gapEvents := min 65535 (k.gapEvents + 1) }))

/-- R185, R197: a MGMT_REQ addressed to this node on the station port is consumed, not forwarded: while a reply is held
it joins the tail of the request queue, or is dropped with MGMT_OVERFLOW behind four. -/
def Obligations.RequestFrameIsQueued : Prop :=
  ∀ (bytes args : List Byte) (code hi lo : Byte) (r : Reply) (s : State), s.resetLow = false →
    frameGood bytes = true → at8 bytes 2 = 0x30 → BitVec.ofNat 6 (at8 bytes 0) = s.node → s.node ≠ 63#6 →
    (bytes.drop 6).take (bytes.length - 8) = code :: hi :: lo :: args → s.mgmt.reply = some r →
    ∃ t, exec (.frameReception .station bytes) s = .next t ∧ t.mgmt.reply = some r ∧
      t.mgmt.queue = (if s.mgmt.queue.length < 4 then
        s.mgmt.queue ++ [⟨code, { source := BitVec.ofNat 6 (at8 bytes 1), tag := hi ++ lo, args := args }⟩]
        else s.mgmt.queue) ∧
      t.errors.mgmtOverflow = (s.errors.mgmtOverflow || decide (4 ≤ s.mgmt.queue.length)) ∧
      (s.link.field.sending.isSome = true → t.link.field = s.link.field) ∧
      t.tables = s.tables ∧ t.channels = s.channels ∧ t.insts = s.insts ∧ t.clock = s.clock

/-! ### Bands -/

/-- R53: the cascade output limited by the clip limit, and what is counted. -/
def Obligations.ClipLimitsCascadeOutput : Prop :=
  ∀ (b : BandEntry) (y v : Int) (sat : Bool) (x : Inst), 1 ≤ b.clip → b.clip ≤ 32767 →
    (cascade b.sections x.filter y).2 = (v, sat) →
    ((b.clip : Int) < v → clipTo b.clip v = b.clip) ∧ (v < -(b.clip : Int) → clipTo b.clip v = -(b.clip : Int)) ∧
    (-(b.clip : Int) ≤ v → v ≤ b.clip → clipTo b.clip v = v) ∧
    (x.sample b y).clipCount =
      (if (b.clip : Int) < v ∨ v < -(b.clip : Int) then x.clipCount + 1 else x.clipCount) ∧
    (v = -32768 → (x.sample b y).clipCount = x.clipCount + 1) ∧
    (x.satCount < 16384 → (x.sample b y).satCount = if sat then x.satCount + 1 else x.satCount)

/-- R54: the sum of squares of a window never leaves 48 bits. -/
def Obligations.SumOfSquaresFits48Bits : Prop :=
  ∀ (b : BandEntry) (ys : List Int) (x : Inst), b.clip ≤ 32767 → ys.length ≤ 16384 → x.sumSq = 0 →
    (∀ (z : Inst) (y : Int), (z.sample b y).sumSq =
      z.sumSq + (clipTo b.clip (cascade b.sections z.filter y).2.1).natAbs ^ 2 ∧
      (clipTo b.clip (cascade b.sections z.filter y).2.1).natAbs ≤ 32767) ∧
    (ys.foldl (fun z y => z.sample b y) x).sumSq ≤ 17591112318976 ∧ 17591112318976 < 2 ^ 48

/-- R66, R67: a raise run of P undisturbed windows above the level raises it to the lowest class of the run, a clear run
of Q windows below it, disturbed or not, lowers it to the highest, and neither moves it before; a DISTURBED window above
the level neither advances nor breaks the raise run; a window not below the level empties the clear run, one not above
it the raise run. -/
def Obligations.AlarmRunsMoveLevel : Prop :=
  (∀ (level p q c : Nat) (cs : List Nat), (c :: cs).length = p → 1 ≤ q → (∀ d ∈ c :: cs, level < d) →
    (c :: cs).foldl (fun a d => AlarmRecord.step a d false p q) ⟨level, 0, none, 0, none⟩ =
      ⟨cs.foldl min c, 0, none, 0, none⟩ ∧
    ∀ k, k < p → (((c :: cs).take k).foldl (fun a d => AlarmRecord.step a d false p q) ⟨level, 0, none, 0, none⟩).level =
      level) ∧
  (∀ (level p q c n : Nat) (f : Bool) (m : Option Nat) (cs : List (Nat × Bool)), ((c, f) :: cs).length = q →
    (∀ d ∈ (c, f) :: cs, d.1 < level) →
    ((c, f) :: cs).foldl (fun a d => AlarmRecord.step a d.1 d.2 p q) ⟨level, n, m, 0, none⟩ =
      ⟨cs.foldl (fun h d => max h d.1) c, 0, none, 0, none⟩ ∧
    ∀ k, k < q → (((c, f) :: cs).take k |>.foldl (fun a d => AlarmRecord.step a d.1 d.2 p q)
      ⟨level, n, m, 0, none⟩).level = level) ∧
  ∀ (a : AlarmRecord) (c p q : Nat) (f : Bool),
    (a.level < c → a.step c true p q = { a with clearCount := 0, clearLevel := none }) ∧
    (a.level ≤ c → (a.step c f p q).clearCount = 0 ∧ (a.step c f p q).clearLevel = none) ∧
    (c = a.level → (a.step c f p q).level = c) ∧
    (c ≤ a.level → (a.step c f p q).raiseCount = 0 ∧ (a.step c f p q).raiseLevel = none)

/-! ### Icing and grid -/

/-- R89: a fresh track window in SUSPECT. -/
def Obligations.SuspectStep : Prop :=
  ∀ (e : IceEntry) (k : TrackConditions) (r : IceRecord), r.state = .suspect → k.fresh = true →
    r.evidence < e.niced → (k.evidence = true → k.evaluable = true) →
    (k.evidence = true → r.evidence + 1 = e.niced →
      (iceStep e k r).state = .iced ∧ (iceStep e k r).evidence = e.niced ∧ (iceStep e k r).thaw = 0) ∧
    (k.evidence = true → r.evidence + 1 < e.niced →
      (iceStep e k r).state = .suspect ∧ (iceStep e k r).evidence = r.evidence + 1) ∧
    (k.evidence = false → k.evaluable = true → r.evidence = 1 →
      (iceStep e k r).state = .watch ∧ (iceStep e k r).evidence = 0 ∧ (iceStep e k r).clear = 0) ∧
    (k.evidence = false → k.evaluable = true → 1 < r.evidence →
      (iceStep e k r).state = .suspect ∧ (iceStep e k r).evidence = r.evidence - 1) ∧
    (k.evaluable = false → iceStep e k r = r) ∧
    (∀ g, iceStep e { k with gate := g } r = iceStep e k r) ∧ (iceStep e k r).blades = r.blades

/-- R90: a fresh window in ICED is stepped by temperature alone. -/
def Obligations.IcedStep : Prop :=
  ∀ (e : IceEntry) (k : TrackConditions) (r : IceRecord), r.state = .iced → k.fresh = true → r.evidence = e.niced →
    (k.warm = true → r.thaw + 1 < e.nthaw →
      (iceStep e k r).state = .iced ∧ (iceStep e k r).thaw = r.thaw + 1 ∧ (iceStep e k r).evidence = r.evidence) ∧
    (k.warm = true → e.nthaw ≤ r.thaw + 1 →
      (iceStep e k r).state = .thawing ∧ (iceStep e k r).thaw = 0 ∧ (iceStep e k r).clear = 0) ∧
    (k.warm = false →
      (iceStep e k r).state = .iced ∧ (iceStep e k r).thaw = 0 ∧ (iceStep e k r).evidence = r.evidence) ∧
    ∀ k' : TrackConditions, k'.fresh = true → k'.warm = k.warm → iceStep e k' r = iceStep e k r

/-- R86 to R88, R91: a window that is not fresh changes no state and no count; a fresh one steps NO_DATA, CLEAR, WATCH
and THAWING as their rules say. -/
def Obligations.WeatherAndThawSteps : Prop :=
  ∀ (e : IceEntry) (k : TrackConditions) (r n : IceRecord), n = iceStep e k r → (k.evidence = true → k.evaluable = true) →
    (k.fresh = false → n = r) ∧ n.blades = r.blades ∧
    (k.fresh = true →
      (r.state = .noData ∨ r.state = .clear → k.gate = true → n.state = .watch ∧ n.evidence = 0 ∧ n.clear = 0) ∧
      (r.state = .noData → k.gate = false → n.state = .clear) ∧ (r.state = .clear → k.gate = false → n = r) ∧
      (r.state = .watch → k.evidence = true → r.evidence + 1 < e.nsuspect →
        n.state = .watch ∧ n.evidence = r.evidence + 1 ∧ n.clear = 0) ∧
      (r.state = .watch → k.evidence = true → r.evidence + 1 = e.nsuspect → e.niced ≠ e.nsuspect →
        n.state = .suspect ∧ n.evidence = e.nsuspect) ∧
      (r.state = .watch → k.evidence = true → r.evidence + 1 = e.nsuspect → e.niced = e.nsuspect →
        n.state = .iced ∧ n.evidence = e.niced ∧ n.thaw = 0) ∧
      (r.state = .watch → k.evidence = false →
        (k.gate = false → e.nclear ≤ r.clear + 1 → n.state = .clear ∧ n.evidence = 0 ∧ n.clear = 0 ∧ n.thaw = 0) ∧
        (k.gate = true ∨ r.clear + 1 < e.nclear → n.state = .watch ∧
          n.clear = (if k.gate = true then 0 else r.clear + 1) ∧
          n.evidence = if k.evaluable = true then r.evidence - 1 else r.evidence)) ∧
      (r.state = .thawing → k.evidence = true →
        n.state = .iced ∧ n.evidence = e.niced ∧ n.thaw = 0 ∧ n.clear = 0) ∧
      (r.state = .thawing → k.evidence = false → k.evaluable = true → r.clear + 1 < e.nclear →
        n.state = .thawing ∧ n.clear = r.clear + 1) ∧
      (r.state = .thawing → k.evidence = false → k.evaluable = true → e.nclear ≤ r.clear + 1 →
        n.state = .clear ∧ n.evidence = 0 ∧ n.clear = 0 ∧ n.thaw = 0) ∧
      (r.state = .thawing → k.evaluable = false → n = r))

/-- R83 to R85, R92: what a track window finds, that its blade keeps the crossing count, and the learning step of an
evaluable warm window that leaves the turbine in CLEAR; no other baseline changes. -/
def Obligations.TrackWindowLearnsBaseline : Prop :=
  (∀ (e : IceEntry) (x : Turbine) (b : Blade) (v : Verdict) (c : Nat) (k : TrackConditions),
    k = trackConditions e x b v c →
    (k.fresh = true ↔ x.freshness = .fresh) ∧
    (k.gate = true ↔ x.freshness = .fresh ∧ x.status.ambient ≤ e.ticeMax ∧ e.rhMin ≤ x.status.humidity) ∧
    (k.evaluable = true ↔ v = .classed ∧ e.rotorMin ≤ x.status.rotor) ∧
    (k.evidence = true ↔ k.evaluable = true ∧ (b.status = .valid ∨ b.status = .loaded) ∧
      (e.dmin16 : Int) ≤ (b.b16 : Int) - 16 * (c : Int))) ∧
  (∀ (t : Fin 8) (b : Fin 3) (i : Fin 96) (v : Verdict) (c gen : Nat) (k : TrackConditions) (old n : Blade) (s : State),
    k = trackConditions s.tables.ice[t] s.turbines[t] s.ice[t].blades[b] v c → old = s.ice[t].blades[b] →
    n = (trackWindow t b i v c gen s).ice[t].blades[b] →
    (trackWindow t b i v c gen s).ice[t].state = (iceStep s.tables.ice[t] k s.ice[t]).state ∧ n.lastC = some c ∧
    (∀ j : Fin 3, j ≠ b → (trackWindow t b i v c gen s).ice[t].blades[j] = s.ice[t].blades[j]) ∧
    (∀ j : Fin 8, j ≠ t → (trackWindow t b i v c gen s).ice[j] = s.ice[j]) ∧
    ((iceStep s.tables.ice[t] k s.ice[t]).state ≠ .clear ∨ k.evaluable = false ∨
        s.turbines[t].status.ambient < s.tables.ice[t].tlearn → n.b16 = old.b16 ∧ n.status = old.status) ∧
    ((iceStep s.tables.ice[t] k s.ice[t]).state = .clear → k.evaluable = true →
      s.tables.ice[t].tlearn ≤ s.turbines[t].status.ambient → n.b16 = (old.learn c).b16 ∧
        n.status = (old.learn c).status)) ∧
  ∀ (b : Blade) (c : Nat),
    (b.status = .none → (b.learn c).b16 = 16 * c ∧ (b.learn c).status = .learning 1) ∧
    (b.status = .loaded → b.learn c = b) ∧
    (b.status = .valid ∨ (∃ n, b.status = .learning n) →
      ((b.learn c).b16 : Int) = (b.b16 : Int) + (16 * (c : Int) - (b.b16 : Int)).tdiv 16) ∧
    (∀ n, b.status = .learning n → n < 31 → (b.learn c).status = .learning (n + 1)) ∧
    (b.status = .learning 31 ∨ b.status = .valid → (b.learn c).status = .valid)

/-- R114: a block is OFF_SYNC by the crossings of phase A alone. -/
def Obligations.OffSyncTest : Prop :=
  ∀ (l : Latch) (acc : Vector PhaseAcc 3) (d : Vector Detector 3), d[0].list.Pairwise (· < ·) →
    (gridVerdict l acc d = .offSync ↔
      d[0].list.length < 9 ∨
        ∃ (k : Nat) (h : k + 1 < d[0].list.length),
          d[0].list[k + 1] - d[0].list[k] < 62 ∨ 66 < d[0].list[k + 1] - d[0].list[k])

/-- R123 to R125: the sync condition follows the verdict of a completed block, with a GRID_FAULT notice on a move into
or out of the faulty conditions; the alarm step counts exceeding and other EVALUATED blocks, with a GRID_ALARM notice on
each change; a block that completes leaves its result, and the next one starts unless the point is marked to suspend. -/
def Obligations.GridBlockSteps : Prop :=
  (∀ (p : Fin 2) (v : GridVerdict) (gen : Nat) (old new : SyncCondition) (s u : State), old = s.points[p].sync →
    new = (match v with
      | .evaluated => .sound | .offSync => .offSync | .phaseOrder => .phaseOrder | .noFundamental => old) →
    u = { s with points := upd s.points p fun x => { x with sync := new } } →
    syncUpdate p v gen s =
      if (old = .none ∨ old = .sound) ∧ (new = .offSync ∨ new = .phaseOrder) ∨
          (old = .offSync ∨ old = .phaseOrder) ∧ new = .sound then
        offer { cls := .gridFault, priority := 2, turbine := none, subject := .point p, old := BitVec.ofNat 8 old.code
                new := BitVec.ofNat 8 new.code, value := .absent, gen := gen, accessHold := false
                noBaseline := false } u
      else u) ∧
  (∀ (p : Fin 2) (r : GridResult) (x : GridPoint) (g : GridEntry) (s : State), x = s.points[p] → g = s.tables.grid[p] →
    (r.evaluation = none → alarmUpdate p r s = s) ∧
    ∀ v, r.evaluation = some v →
      (x.alarm = .normal → v.exceeds = true → x.raiseCount + 1 < g.persistence → alarmUpdate p r s =
        { s with points := upd s.points p fun x => { x with raiseCount := x.raiseCount + 1 } }) ∧
      (x.alarm = .normal → v.exceeds = true → g.persistence ≤ x.raiseCount + 1 → alarmUpdate p r s =
        offer { cls := .gridAlarm, priority := 1, turbine := none, subject := .point p, old := 0, new := 1
                value := .thd v.worstThd, gen := r.gen, accessHold := false, noBaseline := false }
          { s with points := upd s.points p fun x => { x with alarm := .alarm, raiseCount := 0, clearCount := 0 } }) ∧
      (x.alarm = .normal → v.exceeds = false → alarmUpdate p r s =
        { s with points := upd s.points p fun x => { x with raiseCount := 0 } }) ∧
      (x.alarm = .alarm → v.exceeds = false → x.clearCount + 1 < g.clear → alarmUpdate p r s =
        { s with points := upd s.points p fun x => { x with clearCount := x.clearCount + 1 } }) ∧
      (x.alarm = .alarm → v.exceeds = false → g.clear ≤ x.clearCount + 1 → alarmUpdate p r s =
        offer { cls := .gridAlarm, priority := 1, turbine := none, subject := .point p, old := 1, new := 0
                value := .thd v.worstThd, gen := r.gen, accessHold := false, noBaseline := false }
          { s with points := upd s.points p fun x => { x with alarm := .normal, raiseCount := 0, clearCount := 0 } }) ∧
      (x.alarm = .alarm → v.exceeds = true → alarmUpdate p r s =
        { s with points := upd s.points p fun x => { x with clearCount := 0 } })) ∧
  ∀ (p : Fin 2) (l : Latch) (x : GridPoint) (r : GridResult) (s t : State), x = s.points[p] → t = completeBlock p l s →
    r = blockResult l x.acc x.detectors s.clock.counter →
    t.points[p].lastResult = some r ∧ t.points[p].sync = (syncUpdate p r.verdict l.gen s).points[p].sync ∧
    t.points[p].alarm = (alarmUpdate p r s).points[p].alarm ∧
    t.points[p].raiseCount = (alarmUpdate p r s).points[p].raiseCount ∧
    t.points[p].clearCount = (alarmUpdate p r s).points[p].clearCount ∧
    (∀ q : Fin 2, q ≠ p → t.points[q] = s.points[q]) ∧
    (x.marked = false → t.points[p].intake = x.intake ∧ t.points[p].expect = x.expect ∧ t.points[p].index = 0 ∧
      t.points[p].acc = Vector.replicate 3 (Vector.replicate 31 (0, 0)) ∧
      ∀ q : Fin 3, t.points[p].detectors[q] = { armed := x.detectors[q].armed, list := [] }) ∧
    (x.marked = true → t.points[p].intake = .suspended ∧ t.points[p].marked = false ∧ t.points[p].expect = none ∧
      t.points[p].idleExpiry = none)

/-! ### Notices -/

/-- R171, R173, R174: a masked offer changes nothing; any other is numbered, stamped and placed behind every notice of
its own or a more urgent priority. -/
def Obligations.OfferMaskedOrPlaced : Prop :=
  ∀ (o : Offer) (s : State),
    (s.masked o = true ↔ s.tables.global.mask.getLsbD o.cls.code = true ∨
      ∃ t : Fin 8, o.turbine = some t ∧ o.cls.turbineBound = true ∧ s.tables.turbines[t].valid = true ∧
        s.tables.turbines[t].noticeMask.getLsbD o.cls.code = true) ∧
    (s.masked o = true → offer o s = s) ∧
    (s.masked o = false → s.notices.queue.length < 48 →
      s.notices.queue.Pairwise (fun a b => a.offer.priority ≤ b.offer.priority) →
      (offer o s).notices.queue =
        s.notices.queue.filter (fun x => x.offer.priority ≤ o.priority) ++
          { offer := o, number := s.notices.next, stamp := ⟨s.clock.day, s.clock.ms, s.clock.sync⟩ } ::
            s.notices.queue.filter (fun x => o.priority < x.offer.priority) ∧
      offer o s = { s with notices := (offer o s).notices })

/-- R175: what a full queue does with a notice that is not masked: with a less urgent notice that is not in
transmission, the newest of the least urgent gives way; without one, the new notice is lost. Both set NOTICE_OVERFLOW,
and the number is taken (R172). -/
def Obligations.OverflowKeepsOldest : Prop :=
  ∀ (o : Offer) (s : State), s.masked o = false → s.notices.Sound → s.notices.queue.length = 48 →
    (offer o s).errors.noticeOverflow = true ∧ (offer o s).notices.next ≠ s.notices.next ∧
    ((∀ x ∈ s.notices.queue, s.notices.sending = some x.number ∨ x.offer.priority ≤ o.priority) →
      (offer o s).notices.queue = s.notices.queue) ∧
    ∀ (a b : List Notice) (x : Notice), s.notices.queue = a ++ x :: b → s.notices.sending ≠ some x.number →
      o.priority < x.offer.priority →
      (∀ y ∈ b, s.notices.sending = some y.number ∨ y.offer.priority ≤ o.priority) →
      (offer o s).notices.queue =
        (a ++ b).filter (fun y => y.offer.priority ≤ o.priority) ++
          { offer := o, number := s.notices.next, stamp := ⟨s.clock.day, s.clock.ms, s.clock.sync⟩ } ::
            (a ++ b).filter (fun y => o.priority < y.offer.priority)

/-! ### The link: own frames and completions -/

/-- R188 with R13 and R176: the order in which a port's own frames begin, and what they carry. -/
def Obligations.OwnFrameOrder : Prop :=
  (∀ (r : Reply) (s : State), s.mgmt.reply = some r →
    (beginOwn .station s).link.station.sending =
      some (.reply (ownFrame r.request.rq.source s.node .mgmtReply r.payload))) ∧
  (∀ (n : Notice) (s : State), s.mgmt.reply = none → s.notices.head = some n →
    (beginOwn .station s).link.station.sending =
      some (.notice (ownFrame s.tables.global.dest s.node .notice n.payload)) ∧
    (beginOwn .station s).notices = { s.notices with sending := some n.number }) ∧
  ∀ (k : Fin 8) (v : Curtail) (since : Nat) (s : State), s.turbines[k].advisory = .pending v since →
    (∀ (j : Fin 8) (w : Curtail) (at' : Nat), s.turbines[j].advisory = .pending w at' →
      since < at' ∨ (since = at' ∧ k ≤ j)) →
    (beginOwn .field s).turbines[k].advisory = .sending v ∧
    (∀ j : Fin 8, j ≠ k → (beginOwn .field s).turbines[j] = s.turbines[j]) ∧
    (beginOwn .field s).link.field.sending = some (.advisory k (ownFrame s.tables.turbines[k].controller s.node .advisory
      (u8 k.1 ++ u8 v.code ++ u16 s.clock.day ++ u32 s.clock.ms ++ u8 s.clock.sync.code)))

/-- R187: a forwarded frame that completes frees its port, and the arbiter's next choice follows the table. -/
def Obligations.ForwardedCompletionChoosesNext : Prop :=
  ∀ (p : Port) (b : List Byte) (s : State), s.resetLow = false → (s.link.port p).sending = some (.forwarded b) →
    ∃ t, exec (.forwardedFrameCompletion p) s = .next t ∧ t.hideFrames = s.hideFrames ∧
      (s.ownWaiting p = false → (s.link.port p).buffer = [] →
        t.link.port p = { s.link.port p with sending := none }) ∧
      (∀ f rest, s.ownWaiting p = false → (s.link.port p).buffer = f :: rest →
        t.link.port p = { s.link.port p with buffer := rest, sending := some (.forwarded f), runCount := 0 }) ∧
      (∀ f rest, s.ownWaiting p = true → (s.link.port p).buffer = f :: rest → (s.link.port p).runCount < 8 →
        t.link.port p = { s.link.port p with
          buffer := rest, sending := some (.forwarded f), runCount := (s.link.port p).runCount + 1 }) ∧
      (s.ownWaiting p = true → ((s.link.port p).buffer = [] ∨ 8 ≤ (s.link.port p).runCount) →
        ∃ x, t.link.port p = { s.link.port p with sending := some x, runCount := 0 } ∧ ∀ f, x ≠ .forwarded f)

/-- R176: a completed NOTICE frame takes its notice out of the queue; the others keep their order. -/
def Obligations.NoticeCompletionRemovesNotice : Prop :=
  ∀ (b : List Byte) (k : Nat) (s : State), s.resetLow = false → s.link.station.sending = some (.notice b) →
    s.notices.sending = some k →
    ∃ t, exec .noticeFrameCompletion s = .next t ∧
      t.hideFrames = ({ s with notices := { s.notices with
        queue := s.notices.queue.filter fun x => x.number ≠ k } }).hideFrames ∧
      t.notices.sending ≠ some k

/-- R15: where the mechanism of a turbine stands after its ADVISORY frame; one that is PENDING again may begin at once
(R187). -/
def Obligations.AdvisoryCompletionMoves : Prop :=
  ∀ (k : Fin 8) (b : List Byte) (s : State), s.resetLow = false → s.link.field.sending = some (.advisory k b) →
    ∃ t, exec .advisoryFrameCompletion s = .next t ∧ t.hideFrames = s.hideFrames ∧
      (∀ v, s.turbines[k].advisory = .sending v → s.tables.turbines[k].inService = false →
        t.turbines[k].advisory = .quiet) ∧
      (∀ v, s.turbines[k].advisory = .sending v → s.tables.turbines[k].inService = true → s.turbines[k].curtail = v →
        t.turbines[k].advisory = if v = .none then .quiet else .holding (s.clock.counter + 10000)) ∧
      (∀ v, s.turbines[k].advisory = .sending v → s.tables.turbines[k].inService = true → s.turbines[k].curtail ≠ v →
        t.turbines[k].advisory = .pending s.turbines[k].curtail s.clock.counter ∨
          t.turbines[k].advisory = .sending s.turbines[k].curtail) ∧
      (∀ v w since, s.turbines[k].advisory = .sendingPending v w since →
        t.turbines[k].advisory = .pending w since ∨ t.turbines[k].advisory = .sending w)

/-- R197: a completed MGMT_REPLY frame releases the reply, and the head of the request queue is taken; R209: unless the
reply is the OK reply of a Restart FULL, which then takes effect, with power-on values everywhere but for node number,
forwarding path and port health. That a turbine whose ADVISORY frame is in transmission stands SENDING after it is the
MODEL's deduction (log 25): R20 says only that it is QUIET once that frame completes. -/
def Obligations.ReplyCompletionReleasesReply : Prop :=
  ∀ (b : List Byte) (r : Reply) (s : State), s.resetLow = false → s.link.station.sending = some (.reply b) →
    s.mgmt.reply = some r →
    ∃ t, exec .mgmtReplyCompletion s = .next t ∧
      (r.request.code ≠ 0xF0#8 ∨ r.answer.status ≠ .ok →
        (s.mgmt.queue = [] → t.hideFrames = ({ s with mgmt := { queue := [], reply := none } }).hideFrames) ∧
        ∀ q rest, s.mgmt.queue = q :: rest → t.mgmt.queue = rest ∧
          ∃ r', t.mgmt.reply = some r' ∧ r'.request = q ∧ r'.stamp = ⟨s.clock.day, s.clock.ms, s.clock.sync⟩) ∧
      (r.request.code = 0xF0#8 → r.answer.status = .ok →
        t.hideFrames = ({ State.powerOn s.node with link := s.link, pending := s.pending }).hideFrames ∧
        (s.link.field.sending.isSome = true → t.link.field = s.link.field) ∧
        ∀ k : Fin 8, t.turbines[k].advisory = match s.turbines[k].advisory with
          | .sending v => .sending v
          | .sendingPending v _ _ => .sending v
          | .quiet | .pending _ _ | .holding _ => .quiet)

/-! ### Timers, the clock and maintenance -/

/-- R6, R8: an expired freshness timeout makes a FRESH turbine STALE with its fields kept, and clears fresh-throughout
of the open windows of its channels; nothing else changes, but that the arbiters may begin an advisory. R16: the re-send
timer of a HOLDING turbine makes its request PENDING again; that its command before the expiry leaves the turbine HOLDING
is the MODEL's choice (log 3). -/
def Obligations.TurbineTimersExpire : Prop :=
  ∀ (k : Fin 8) (s : State), s.resetLow = false →
    (s.turbines[k].freshness = .fresh → s.turbines[k].freshExpiry ≤ s.clock.counter →
      ∃ t, exec (.freshnessTimeout k) s = .next t ∧
        t.turbines[k].freshness = .stale ∧ t.turbines[k].status = s.turbines[k].status ∧
        t.turbines[k].lastStatus = s.turbines[k].lastStatus ∧ t.turbines[k].curtail = s.turbines[k].curtail ∧
        t.turbines[k].worst = s.turbines[k].worst ∧
        (∀ i : Fin 96, t.insts[i] = if s.channels[instChannel i].config.entry.turbine = k then
          { s.insts[i] with window := s.insts[i].window.map fun w => { w with fresh := false } } else s.insts[i]) ∧
        t.hideFrames = ({ s with turbines := t.turbines, insts := t.insts }).hideFrames ∧
        ∀ j : Fin 8, j ≠ k → t.turbines[j] = { s.turbines[j] with advisory := t.turbines[j].advisory }) ∧
    ∀ expiry, s.turbines[k].advisory = .holding expiry →
      ∃ t, exec (.resendTimerExpiry k) s = .next t ∧ t.hideFrames = s.hideFrames ∧
        (expiry ≤ s.clock.counter → t.turbines[k].advisory = .pending s.turbines[k].curtail expiry ∨
          t.turbines[k].advisory = .sending s.turbines[k].curtail) ∧
        (s.clock.counter < expiry → t.turbines[k].advisory = .holding expiry)

/-- R31, R34: an expired idle timer ends the run of a bound channel, which enters IDLE; in SUSPENDED it only notes the
stream idle. R111: an expired idle timer discards a point's block without a gap event. -/
def Obligations.IdleTimersEndRuns : Prop :=
  (∀ (c : Fin 24) (expiry : Nat) (s : State), s.resetLow = false → s.channels[c].idleExpiry = some expiry →
    expiry ≤ s.clock.counter →
    ∃ t, exec (.channelIdleTimerExpiry c) s = .next t ∧
      (∀ d : Fin 24, d ≠ c → t.channels[d] = s.channels[d]) ∧
      (s.channels[c].state = .suspended →
        t.channels[c] = { s.channels[c] with idleExpiry := none, streamIdle := true } ∧ t.insts = s.insts) ∧
      ((s.channels[c].state = .settling ∨ s.channels[c].state = .running) → s.channels[c].marked = false →
        s.channelBound c = true → s.channels[c].gen = s.generation →
        t.channels[c].state = .idle ∧ t.channels[c].expect = none ∧ t.channels[c].lastInput = none ∧
        t.channels[c].idleExpiry = none ∧ t.channels[c].ring = [] ∧ t.channels[c].group = [] ∧
        t.channels[c].config = s.channels[c].config ∧ t.channels[c].gen = s.channels[c].gen ∧
        ∀ i : Fin 96, if instChannel i = c then
            t.insts[i].window = none ∧ t.insts[i].sumSq = 0 ∧ t.insts[i].crossings = 0 ∧
              t.insts[i].alarm = s.insts[i].alarm ∧ t.insts[i].lastResult = s.insts[i].lastResult
          else t.insts[i] = s.insts[i])) ∧
  ∀ (p : Fin 2) (expiry : Nat) (s : State), s.resetLow = false → s.points[p].intake = .assembling →
    s.points[p].idleExpiry = some expiry → expiry ≤ s.clock.counter →
    ∃ t, exec (.gridIdleTimerExpiry p) s = .next t ∧
      t.points[p].intake = (if s.points[p].marked then .suspended else .idle) ∧ t.points[p].expect = none ∧
      t.points[p].idleExpiry = none ∧ t.points[p].index = 0 ∧ t.points[p].latch = none ∧
      t.points[p].alarm = s.points[p].alarm ∧ t.points[p].raiseCount = s.points[p].raiseCount ∧
      t.points[p].clearCount = s.points[p].clearCount ∧ t.points[p].sync = s.points[p].sync ∧
      t.points[p].lastResult = s.points[p].lastResult ∧ (∀ q : Fin 2, q ≠ p → t.points[q] = s.points[q]) ∧
      t.counts = s.counts ∧ t.channels = s.channels

/-- R137, R194: at a multiple of 60,000 ms above 0 the valid RUN-source entries of running turbines gain their weight,
once; no other usage changes. R191, R140: with the millisecond of the counter that ends the day of a running clock its ms
of day becomes 0, the next day begins (65535 to 0), and a day-change event never lowers the schedule day. R193: an
expired holdover timer moves a LOCKED clock to HOLDOVER, its day and ms of day unchanged, and offers the LINK notice.
That the minute and day commands change nothing when they are not due, and that the day command is the millisecond that
ends the day, is the MODEL's choice (log 3); how it knows that a multiple's event has been taken is its own field
(log 38). -/
def Obligations.ClockEvents : Prop :=
  (∀ s : State, s.resetLow = false →
    ∃ t u, exec .minuteEvent s = .next t ∧ exec .msOfDayWrap s = .next u ∧
      (0 < s.clock.counter → s.clock.counter % 60000 = 0 → s.minuteTaken ≠ s.clock.counter →
        t.minuteTaken = s.clock.counter ∧ ∀ n : Fin 96, t.items[n].usage =
          match s.items[n].source with
          | .run w => if s.items[n].valid = true ∧ s.turbines[s.items[n].turbine].freshness = .fresh ∧
                (s.turbines[s.items[n].turbine].status.op = .producing ∨
                  s.turbines[s.items[n].turbine].status.op = .curtailed) then
              min (s.items[n].usage + w) 4294967295 else s.items[n].usage
          | .none | .vib _ _ | .grid _ _ | .ice _ => s.items[n].usage) ∧
      (s.clock.counter = 0 ∨ s.clock.counter % 60000 ≠ 0 ∨ s.minuteTaken = s.clock.counter →
        t.hideFrames = s.hideFrames) ∧
      t.hideFrames = ({ s with
        items := t.items, minuteTaken := t.minuteTaken, notices := t.notices, errors := t.errors }).hideFrames ∧
      (s.clock.sync ≠ .unset → s.clock.ms = 86399999 →
        u.clock = { s.clock with day := (s.clock.day + 1) % 65536, ms := 0, counter := u.clock.counter } ∧
        (s.clock.counter < 2 ^ 48 - 1 → u.clock.counter = s.clock.counter + 1) ∧
        u.scheduleDay = s.scheduleDay.map fun d => max d ((s.clock.day + 1) % 65536)) ∧
      (s.clock.sync = .unset ∨ s.clock.ms < 86399999 → u.hideFrames = s.hideFrames) ∧
      u.tables = s.tables ∧ u.channels = s.channels ∧ u.insts = s.insts ∧ u.ice = s.ice) ∧
  ∀ (expiry : Nat) (s : State), s.resetLow = false → s.clock.sync = .locked →
    s.clock.holdoverExpiry = some expiry → expiry ≤ s.clock.counter →
    ∃ t, exec .holdoverTimerExpiry s = .next t ∧
      t.clock = { s.clock with sync := .holdover, holdoverExpiry := none } ∧
      t.hideFrames = (offer
        { cls := .link, priority := 3, turbine := none, subject := .nothing, old := 1, new := 2, value := .absent,
          gen := s.generation, accessHold := false, noBaseline := false }
        { s with clock := { s.clock with sync := .holdover, holdoverExpiry := none } }).hideFrames

/-- R141 to R144: the date part, the usage part, and what an evaluation of an entry does: the more advanced part becomes
its state, with a MAINT notice when that differs from the state held. -/
def Obligations.EntryEvaluation : Prop :=
  (∀ due lead grace : Nat, datePart none due lead grace = .idle ∧ ∀ day : Nat,
    (due + grace ≤ day → datePart (some day) due lead grace = .overdue) ∧
    (due ≤ day → day < due + grace → datePart (some day) due lead grace = .due) ∧
    (day < due → (due : Int) - lead ≤ day → datePart (some day) due lead grace = .soon) ∧
    ((day : Int) < due - lead → datePart (some day) due lead grace = .idle)) ∧
  (∀ u l : Nat, usagePart u 0 = .idle ∧ (0 < l →
    (5 * l ≤ 4 * u → usagePart u l = .overdue) ∧ (l ≤ u → 4 * u < 5 * l → usagePart u l = .due) ∧
    (u < l → 7 * l ≤ 8 * u → usagePart u l = .soon) ∧ (8 * u < 7 * l → usagePart u l = .idle))) ∧
  ∀ (n : Fin 96) (x : MaintItem) (a b new : MaintState) (s : State), x = s.items[n] →
    a = datePart s.scheduleDay x.dueDay x.lead s.tables.global.graceDays → b = usagePart x.usage x.usageLimit →
    new = (if x.valid = false then .disabled else if b.code ≤ a.code then a else b) →
    (new = x.state → evaluate n s = s) ∧
    (new ≠ x.state → evaluate n s = offer
      { cls := .maint, priority := 2, turbine := some x.turbine, subject := .entry n, old := BitVec.ofNat 8 x.state.code
        new := BitVec.ofNat 8 new.code, value := .usage x.usage, gen := s.generation
        accessHold := decide (s.ice[x.turbine].state = .suspect ∨ s.ice[x.turbine].state = .iced ∨
          s.ice[x.turbine].state = .thawing)
        noBaseline := false } { s with items := upd s.items n fun x => { x with state := new } })

/-! ### Requests -/

/-- R198, R214: what turns a request away before it acts. An unknown code, or argument bytes of another number than the
code or the request's own table, kind and count require, is answered MALFORMED with the flag; an unknown table
BAD_TABLE with its flag; an index out of range BAD_INDEX. Nothing else changes. That the BAD_INDEX of a Stage entries
request carries no position byte is the MODEL's reading (log 41). -/
def Obligations.UnsuitedRequestIsTurnedAway : Prop :=
  (∀ (c : Instr) (q : QueuedRequest) (s : State), requestOf c = some q → s.ready →
    (RequestKind.ofCode q.code = none ∨ ∃ n, argBytes c = some n ∧ q.rq.args.length ≠ n) →
    ∃ t, exec c s = .next t ∧
      t.hideFrames = (({ s with errors := { s.errors with malformedRequest := true } }).answered q.code q.rq
        (.plain .malformed)).hideFrames) ∧
  (∀ (rq : Request) (n : Nat) (s : State), s.ready → n = at8 rq.args 1 →
    ∃ t u, exec (.stageEntries rq) s = .next t ∧ exec (.readResults rq) s = .next u ∧
      (rq.args.length < 2 ∨ n = 0 ∨ 8 < n ∨
          (∃ tc, TableCode.ofCode (at8 rq.args 0) = some tc ∧ rq.args.length ≠ 2 + n * (1 + tc.size)) →
        t.hideFrames = (({ s with errors := { s.errors with malformedRequest := true } }).answered 0x10 rq
          (.plain .malformed)).hideFrames) ∧
      (2 ≤ rq.args.length → 1 ≤ n → n ≤ 8 → TableCode.ofCode (at8 rq.args 0) = none →
        t.hideFrames = (({ s with errors := { s.errors with noSuchTable := true } }).answered 0x10 rq
          (.plain .badTable)).hideFrames) ∧
      (∀ tc, 1 ≤ n → n ≤ 8 → TableCode.ofCode (at8 rq.args 0) = some tc → rq.args.length = 2 + n * (1 + tc.size) →
        (∃ k, k < n ∧ tc.entries ≤ at8 rq.args (2 + k * (1 + tc.size))) →
        t.hideFrames = (s.answered 0x10 rq (.plain .badIndex)).hideFrames) ∧
      (rq.args.length < 2 ∨ n = 0 ∨ 8 < n ∨ rq.args.length ≠ 2 + n →
        u.hideFrames = (({ s with errors := { s.errors with malformedRequest := true } }).answered 0x31 rq
          (.plain .malformed)).hideFrames)) ∧
  ∀ (c : Instr) (q : QueuedRequest) (rq : Request) (m : Nat) (s : State), s.ready → requestOf c = some q → q.rq = rq →
    (c, m, rq.args.length) ∈ [(.captureChannel rq, 24, 1), (.done rq, 96, 1), (.defer rq, 96, 3),
      (.iceOverride rq, 8, 1), (.baselineReset rq, 8, 1)] → m ≤ at8 rq.args 0 →
    ∃ t, exec c s = .next t ∧ t.hideFrames = (s.answered q.code rq (.plain .badIndex)).hideFrames

/-- R197, R190: a request that finds a reply held waits at the tail of the queue, or is dropped behind four; a part
without a node address consumes none. -/
def Obligations.RequestWaitsBehindReply : Prop :=
  ∀ (c : Instr) (q : QueuedRequest) (s : State), requestOf c = some q → s.resetLow = false →
    ∃ t, exec c s = .next t ∧
      (s.node = 63#6 → t.hideFrames = s.hideFrames) ∧
      (s.node ≠ 63#6 → s.mgmt.reply.isSome = true → s.mgmt.queue.length < 4 →
        t.hideFrames = ({ s with mgmt := { s.mgmt with queue := s.mgmt.queue ++ [q] } }).hideFrames) ∧
      (s.node ≠ 63#6 → s.mgmt.reply.isSome = true → 4 ≤ s.mgmt.queue.length →
        t.hideFrames = ({ s with errors := { s.errors with mgmtOverflow := true } }).hideFrames)

/-- R205: what Identify returns; it changes no state. -/
def Obligations.IdentifyReturnsIdentity : Prop :=
  ∀ (rq : Request) (s : State), s.ready → rq.args = [] →
    ∃ t, exec (.identify rq) s = .next t ∧
      t.hideFrames = (s.answered 0x01 rq (.ok ([0x2E, 0x71, 0x09, 0x68, 1] ++ u8 s.node.toNat ++ u16 s.generation))).hideFrames

/-- R200, R214: Stage entries stores all the entries of a request or none, and answers the first refused entry with
its position; it touches staging and the error record alone. -/
def Obligations.StagingIsAllOrNone : Prop :=
  ∀ (rq : Request) (tc : TableCode) (n : Nat) (es : List (Nat × List Byte)) (s : State), s.ready →
    TableCode.ofCode (at8 rq.args 0) = some tc → at8 rq.args 1 = n → 1 ≤ n → n ≤ 8 →
    rq.args.length = 2 + n * (1 + tc.size) → entriesOf tc.size n (rq.args.drop 2) = es →
    (∀ e ∈ es, e.1 < tc.entries) →
    ∃ t r, exec (.stageEntries rq) s = .next t ∧ t.mgmt.reply = some r ∧ r.request = ⟨0x10, rq⟩ ∧
      t.hideFrames = ({ s with staged := t.staged, errors := t.errors, mgmt := t.mgmt }).hideFrames ∧
      t.errors = { s.errors with readOnlyWrite :=
        s.errors.readOnlyWrite || decide (ReplyStatus.readOnly ∈ (stageAll tc es s.staged).2) } ∧
      ((∀ st ∈ (stageAll tc es s.staged).2, st.refuses = false) → t.staged = (stageAll tc es s.staged).1 ∧
        r.answer = { status := if ReplyStatus.okAdjusted ∈ (stageAll tc es s.staged).2 then .okAdjusted else .ok,
                     reason := none, results := [] }) ∧
      ∀ (a b : List ReplyStatus) (st : ReplyStatus), (stageAll tc es s.staged).2 = a ++ st :: b →
        (∀ x ∈ a, x.refuses = false) → st.refuses = true →
        t.staged = s.staged ∧ r.answer = { status := st, reason := none, results := u8 (a.length + 1) }

/-- R201: Read staged and Read current return the records from the first index on and change nothing; an unknown table
and an index beyond it are answered by R198. That the records stand one after another with no index or count between
them is the MODEL's deduction (log 14). Discard staged makes staging equal to the current copy, every loaded field of
every maintenance entry included, and removes every mark for load. -/
def Obligations.ReadAndDiscardStaging : Prop :=
  (∀ (rq : Request) (table first count : Byte) (s : State), s.ready → rq.args = [table, first, count] →
    ∃ t u, exec (.readStaged rq) s = .next t ∧ exec (.readCurrent rq) s = .next u ∧
      (TableCode.ofCode table.toNat = none →
        t.hideFrames = (({ s with errors := { s.errors with noSuchTable := true } }).answered 0x11 rq
          (.plain .badTable)).hideFrames ∧
        u.hideFrames = (({ s with errors := { s.errors with noSuchTable := true } }).answered 0x12 rq
          (.plain .badTable)).hideFrames) ∧
      ∀ tc, TableCode.ofCode table.toNat = some tc →
        (tc.entries ≤ first.toNat →
          t.hideFrames = (s.answered 0x11 rq (.plain .badIndex)).hideFrames ∧
          u.hideFrames = (s.answered 0x12 rq (.plain .badIndex)).hideFrames) ∧
        (first.toNat < tc.entries →
          t.hideFrames = (s.answered 0x11 rq (.ok ((List.range (min (if count = 0 ∨ 8 < count.toNat then 8 else count.toNat)
              (tc.entries - first.toNat))).flatMap fun k => s.stagedRecord tc (first.toNat + k)))).hideFrames ∧
          u.hideFrames = (s.answered 0x12 rq (.ok ((List.range (min (if count = 0 ∨ 8 < count.toNat then 8 else count.toNat)
              (tc.entries - first.toNat))).flatMap fun k => s.currentRecord tc (first.toNat + k)))).hideFrames)) ∧
  ∀ (rq : Request) (s : State), s.ready → rq.args = [] →
    ∃ t, exec (.discardStaged rq) s = .next t ∧ t.staged.tables = s.tables ∧
      (∀ n : Fin 96, t.staged.marks[n] = false ∧ t.staged.loads[n] =
        { valid := s.items[n].valid, turbine := s.items[n].turbine, component := s.items[n].component
          task := s.items[n].task, interval := s.items[n].interval, dueDay := s.items[n].dueDay
          lead := s.items[n].lead, usageLimit := s.items[n].usageLimit, usage := some s.items[n].usage
          source := s.items[n].source, lastDone := s.items[n].lastDone }) ∧
      t.hideFrames = (({ s with staged := t.staged }).answered 0x13 rq (.ok [])).hideFrames

/-- R202, R203, R132: an Apply is BUSY while a landing lasts; a staged copy that fails a check of R202, the first in
their order, is answered with the table and the lowest entry that fails it, and nothing changes; one that passes becomes
current with the next generation, and each marked maintenance entry is loaded and evaluated. -/
def Obligations.ApplyMakesStagingCurrent : Prop :=
  ∀ (rq : Request) (n : Tables) (s : State), s.ready → rq.args = [] → n = s.staged.tables →
    ∃ t, exec (.apply rq) s = .next t ∧
      (s.landing = true → t.hideFrames = (s.answered 0x14 rq (.plain .busy)).hideFrames) ∧
      (s.landing = false →
        (∀ j : Fin 64, n.Conflicts j → (∀ i : Fin 64, i < j → ¬ n.Conflicts i) →
          t.hideFrames = (s.answered 0x14 rq
            { status := .conflict, reason := none, results := [1, BitVec.ofNat 8 j.1] }).hideFrames) ∧
        ((∀ j : Fin 64, ¬ n.Conflicts j) →
          (∀ c : Fin 24, n.BindsInvalid c → (∀ b : Fin 24, b < c → ¬ n.BindsInvalid b) →
            t.hideFrames = (s.answered 0x14 rq
              { status := .badValue, reason := none, results := [2, BitVec.ofNat 8 c.1] }).hideFrames) ∧
          ((∀ c : Fin 24, ¬ n.BindsInvalid c) →
            (∀ k : Fin 8, n.TracksUnsound k → (∀ j : Fin 8, j < k → ¬ n.TracksUnsound j) →
              t.hideFrames = (s.answered 0x14 rq
                { status := .badValue, reason := none, results := [5, BitVec.ofNat 8 k.1] }).hideFrames) ∧
            ((∀ k : Fin 8, ¬ n.TracksUnsound k) →
              t.tables = n ∧ t.generation = (s.generation + 1) % 65536 ∧ t.staged.tables = n ∧
              t.staged.loads = s.staged.loads ∧ (∀ m : Fin 96, t.staged.marks[m] = false) ∧ t.clock = s.clock ∧
              t.node = s.node ∧ t.scheduleDay = s.scheduleDay ∧ t.mgmt.queue = [] ∧
              (∃ r, t.mgmt.reply = some r ∧
                r.answer = (.ok (u16 t.generation ++ u8 (if t.landing then 0 else 1)))) ∧
              ∀ (m : Fin 96) (x y : MaintItem) (l : MaintLoad), x = s.items[m] → l = s.staged.loads[m] →
                y = (if s.staged.marks[m] = true then
                  { valid := l.valid, turbine := l.turbine, component := l.component, task := l.task
                    interval := l.interval, dueDay := l.dueDay, baseDue := l.dueDay, lead := l.lead
                    usageLimit := l.usageLimit, usage := l.usage.getD x.usage, source := l.source
                    lastDone := l.lastDone
                    deferrals := if l.turbine = x.turbine ∧ l.component = x.component ∧ l.task = x.task then
                      x.deferrals else 0
                    state := x.state } else x) →
                t.items[m] = if s.staged.marks[m] = true ∨
                    (n.global.graceDays ≠ s.tables.global.graceDays ∧ x.valid = true) then
                  { y with state := y.evaluated s.scheduleDay n.global.graceDays } else x))))

/-- R2, R17, R24, R25, R38, R40, R80, R81, R106, R107: what an Apply that passes does to the counts of the stream entries,
to turbines and their advisories, channels, ice records and grid points. That the counts of a frozen ice record are not
brought to the entry's limits is the MODEL's reading (log 42). -/
def Obligations.ApplyReachesBlocks : Prop :=
  ∀ (rq : Request) (o n : Tables) (s : State), s.ready → rq.args = [] → s.applyRefused = none → o = s.tables →
    n = s.staged.tables →
    ∃ t, exec (.apply rq) s = .next t ∧
      (∀ e : Fin 64, t.counts[e] =
        if n.streams[e].valid = true ∧ o.streams[e] ≠ n.streams[e] then ⟨0, 0⟩ else s.counts[e]) ∧
      (t.landing = true ↔ ∃ c : Fin 24, t.channels[c].gen ≠ t.generation) ∧
      (∀ c : Fin 24, s.channels[c].state ≠ .running →
        t.channels[c].config = n.configOf c ∧ t.channels[c].gen = t.generation) ∧
      (∀ c : Fin 24, (o.sourceOf (.vibChannel c)).isSome = true → n.sourceOf (.vibChannel c) = none →
        t.channels[c].state = .unbound ∧ t.channels[c].expect = none ∧ t.channels[c].config = n.configOf c ∧
        t.channels[c].gen = t.generation) ∧
      (∀ (c : Fin 24) (a b : Fin 64), s.channels[c].state = .running → s.channelBound c = true →
        o.sourceOf (.vibChannel c) = some a → n.sourceOf (.vibChannel c) = some b →
        t.channels[c] = { s.channels[c] with
          gen := if s.channels[c].config = n.configOf c then t.generation else s.channels[c].gen
          expect := if a = b ∧ o.streams[a] = n.streams[b] then s.channels[c].expect else none } ∧
        ∀ (i : Fin 96) (u : Fin 8), instChannel i = c → u = s.channels[c].config.entry.turbine →
          t.insts[i] = if o.turbines[u].valid = true ∧ n.turbines[u].valid = false then
            { s.insts[i] with window := s.insts[i].window.map fun w => { w with fresh := false } } else s.insts[i]) ∧
      (∀ (k : Fin 8) (x y : Turbine), x = s.turbines[k] → y = t.turbines[k] →
        (o.turbines[k].valid = true → n.turbines[k].valid = false →
          y.freshness = .none ∧ y.status = ⟨.stopped, 0, 0, 0, 0, 0⟩ ∧ y.lastStatus = 0) ∧
        (o.turbines[k].valid = false ∨ n.turbines[k].valid = true → y.freshness = x.freshness ∧ y.status = x.status ∧
          y.lastStatus = x.lastStatus ∧ y.freshExpiry = x.freshExpiry) ∧
        (n.ice[k].valid = false ∨ s.ice[k].state ≠ .iced → y.curtail = x.curtail) ∧
        (y.curtail = x.curtail →
          (o.turbines[k].inService = true → n.turbines[k].inService = false → y.advisory = match x.advisory with
            | .sending v => .sending v
            | .sendingPending v _ _ => .sending v
            | .quiet | .pending _ _ | .holding _ => .quiet) ∧
          (o.turbines[k].inService = false → n.turbines[k].inService = true → x.curtail ≠ .none →
            (x.advisory = .quiet →
              y.advisory = .pending x.curtail s.clock.counter ∨ y.advisory = .sending x.curtail) ∧
            ∀ v, x.advisory = .sending v → y.advisory = .sendingPending v x.curtail s.clock.counter) ∧
          (o.turbines[k].inService = n.turbines[k].inService ∨ n.turbines[k].inService = true ∧ x.curtail = .none →
            y.advisory = x.advisory ∨ ∃ v since, x.advisory = .pending v since ∧ y.advisory = .sending v))) ∧
      (∀ (k : Fin 8) (x : IceRecord), x = s.ice[k] →
        (n.ice[k].valid = false → t.ice[k] = x) ∧
        (n.ice[k].valid = true → t.ice[k].state = x.state ∧ t.ice[k].clear = min x.clear n.ice[k].nclear ∧
          t.ice[k].thaw = min x.thaw n.ice[k].nthaw ∧
          t.ice[k].evidence = (match x.state with
            | .watch => min x.evidence n.ice[k].nsuspect
            | .iced | .thawing => n.ice[k].niced
            | .noData | .clear | .suspect => min x.evidence n.ice[k].niced) ∧
          (x.state = .iced → t.turbines[k].curtail = match n.ice[k].level with
            | .reduce => .reduce
            | .stop => .stop) ∧
          ∀ b : Fin 3,
            (n.ice[k].track[b.1]? = none → t.ice[k].blades[b] = ⟨0, .none, none⟩) ∧
            ∀ i, n.ice[k].track[b.1]? = some i →
              (∀ v, n.ice[k].load[b] = some v → t.ice[k].blades[b] =
                ⟨v, .loaded, if o.ice[k].track[b.1]? = some i then x.blades[b].lastC else none⟩) ∧
              (n.ice[k].load[b] = none → o.ice[k].track[b.1]? ≠ some i → t.ice[k].blades[b] = ⟨0, .none, none⟩) ∧
              (n.ice[k].load[b] = none → o.ice[k].track[b.1]? = some i → t.ice[k].blades[b] =
                if x.blades[b].status = .loaded then ⟨0, .none, x.blades[b].lastC⟩ else x.blades[b]))) ∧
      ∀ (p : Fin 2) (x y : GridPoint), x = s.points[p] → y = t.points[p] →
        y.lastResult = x.lastResult ∧
        (o.grid[p].valid = true → n.grid[p].valid = false →
          y.alarm = .normal ∧ y.raiseCount = 0 ∧ y.clearCount = 0 ∧ y.sync = .none) ∧
        (o.grid[p].valid = false → n.grid[p].valid = true →
          y.alarm = .normal ∧ y.raiseCount = 0 ∧ y.clearCount = 0 ∧ y.sync = x.sync) ∧
        (o.grid[p].valid = n.grid[p].valid → y.alarm = x.alarm ∧ y.sync = x.sync ∧
          if n.grid[p].valid = true ∧
              (o.grid[p].persistence ≠ n.grid[p].persistence ∨ o.grid[p].clear ≠ n.grid[p].clear) then
            y.raiseCount = 0 ∧ y.clearCount = 0 else y.raiseCount = x.raiseCount ∧ y.clearCount = x.clearCount) ∧
        (o.pointBound p = true → n.pointBound p = false →
          y.intake = .unbound ∧ y.expect = none ∧ y.latch = none ∧ y.index = 0) ∧
        (o.pointBound p = false → n.pointBound p = true →
          y.intake = (if s.analysis = .active then .idle else .suspended) ∧ y.expect = none) ∧
        ∀ a b : Fin 64, o.pointBound p = true → n.pointBound p = true → o.sourceOf (.gridPoint p) = some a →
          n.sourceOf (.gridPoint p) = some b →
          (a = b → o.streams[a] = n.streams[b] → y.intake = x.intake ∧ y.expect = x.expect ∧ y.index = x.index ∧
            y.latch = x.latch ∧ y.acc = x.acc) ∧
          (a ≠ b ∨ o.streams[a] ≠ n.streams[b] → y.expect = none ∧
            y.intake = match x.intake with
              | .assembling => .idle
              | .unbound => .unbound
              | .idle => .idle
              | .suspended => .suspended)

/-- R204 with R41, R42 and R112: the analysis state after Suspend and after Resume, and what the channels and points
do; the reply carries the state. -/
def Obligations.SuspendAndResumeMoveAnalysis : Prop :=
  ∀ (rq : Request) (s : State), s.ready → rq.args = [] →
    ∃ t u, exec (.suspend rq) s = .next t ∧ exec (.resume rq) s = .next u ∧
      (∃ r, t.mgmt.reply = some r ∧ r.answer = (.ok (u8 t.analysis.code))) ∧
      (∃ r, u.mgmt.reply = some r ∧ r.answer = (.ok (u8 u.analysis.code))) ∧
      t.tables = s.tables ∧ u.tables = s.tables ∧ t.generation = s.generation ∧ u.generation = s.generation ∧
      (s.analysis = .active → s.channelReport = false → s.gridReport = false →
        t.analysis = (if (∀ c : Fin 24, s.channels[c].state ≠ .running) ∧ ∀ p : Fin 2, s.points[p].intake ≠ .assembling
          then .suspended else .suspending) ∧
        (∀ c : Fin 24, s.channels[c].state = .running → t.channels[c] = { s.channels[c] with marked := true }) ∧
        (∀ c : Fin 24, s.channels[c].state = .settling → s.channelBound c = true → s.channels[c].gen = s.generation →
          t.channels[c] = { s.channels[c] with
            state := .suspended, marked := false, streamIdle := false, expect := none, lastInput := none
            idleExpiry := some (s.clock.counter + 2000), group := [], ring := [], settleProgress := 0
            windowProgress := 0, gapped := false } ∧
          ∀ i : Fin 96, instChannel i = c → t.insts[i].window = none ∧ t.insts[i].alarm = s.insts[i].alarm) ∧
        (∀ c : Fin 24, s.channels[c].state = .idle → t.channels[c].state = .suspended) ∧
        (∀ c : Fin 24, s.channels[c].state = .unbound ∨ s.channels[c].state = .suspended →
          t.channels[c] = s.channels[c]) ∧
        (∀ p : Fin 2, s.points[p].intake = .assembling → t.points[p] = { s.points[p] with marked := true }) ∧
        (∀ p : Fin 2, s.points[p].intake = .unbound ∨ s.points[p].intake = .suspended → t.points[p] = s.points[p]) ∧
        ∀ p : Fin 2, s.points[p].intake = .idle → t.points[p].intake = .suspended ∧ t.points[p].expect = none) ∧
      (s.analysis ≠ .active → t.analysis = s.analysis ∧ t.channels = s.channels ∧ t.points = s.points) ∧
      u.analysis = .active ∧
      (s.analysis = .active → u.channels = s.channels ∧ u.points = s.points) ∧
      (s.analysis ≠ .active → u.channelReport = false ∧ u.gridReport = false ∧
        (∀ c : Fin 24, s.channels[c].state = .running → u.channels[c] = { s.channels[c] with marked := false }) ∧
        (∀ c : Fin 24, s.channels[c].state = .suspended → s.channels[c].streamIdle = true →
          u.channels[c].state = .idle) ∧
        (∀ c : Fin 24, s.channels[c].state = .suspended → s.channels[c].streamIdle = false →
          u.channels[c].state = .settling ∨ u.channels[c].state = .running) ∧
        (∀ p : Fin 2, s.points[p].intake = .assembling → u.points[p] = { s.points[p] with marked := false }) ∧
        ∀ p : Fin 2, s.points[p].intake = .suspended → u.points[p].intake = .idle ∧ u.points[p].expect = none)

/-- R206, R207, R199: Read status returns the status record and clears the error flags; Read results returns one record
per index, or BAD_INDEX; neither changes anything else. -/
def Obligations.ReadingChangesOnlyFlags : Prop :=
  (∀ (rq : Request) (s : State), s.ready → rq.args = [] →
    ∃ t, exec (.readStatus rq) s = .next t ∧
      t.hideFrames = (({ s with errors := ⟨false, false, false, false, false, false, false⟩ }).answered 0x30 rq
        (.ok (s.statusRecord))).hideFrames) ∧
  ∀ (rq : Request) (kind : Byte) (idx : List Byte) (k : ResultKind) (s : State), s.ready → 1 ≤ idx.length →
    idx.length ≤ 8 → rq.args = kind :: BitVec.ofNat 8 idx.length :: idx → s.resultKind kind.toNat = some k →
    ∃ t, exec (.readResults rq) s = .next t ∧
      ((∀ b ∈ idx, b.toNat < k.size) →
        t.hideFrames = (s.answered 0x31 rq (.ok (idx.flatMap fun b =>
          if h : b.toNat < k.size then k.record ⟨b.toNat, h⟩ else []))).hideFrames) ∧
      ((∃ b ∈ idx, k.size ≤ b.toNat) →
        t.hideFrames = (s.answered 0x31 rq (.plain .badIndex)).hideFrames)

/-- R177: Fetch returns and removes the first notices of the queue, skipping the one in transmission. -/
def Obligations.FetchReturnsFirstNotices : Prop :=
  ∀ (rq : Request) (b : Byte) (n : Nat) (free : List Notice) (s : State), s.ready → rq.args = [b] →
    s.notices.Sound → n = (if b = 0 ∨ 8 < b.toNat then 8 else b.toNat) →
    free = s.notices.queue.filter (fun x => s.notices.sending ≠ some x.number) →
    ∃ t, exec (.fetchNotices rq) s = .next t ∧
      t.hideFrames = (({ s with notices := { s.notices with
          queue := s.notices.queue.filter fun x => x ∉ free.take n } }).answered 0x40 rq
        (.ok (u8 (min n free.length) ++ (free.take n).flatMap Notice.payload))).hideFrames

/-- R178, R179: Withdraw removes and counts the matching notices that are not in transmission; Set delivery mode writes
a mode that differs into both global records. That a request which names the mode in force leaves the staged record
alone too is the MODEL's reading of R178 (log 32). -/
def Obligations.WithdrawAndDeliveryMode : Prop :=
  ∀ (rq : Request) (b : Byte) (s : State), s.ready → rq.args = [b] →
    ∃ t u, exec (.withdrawNotices rq) s = .next t ∧ exec (.setDeliveryMode rq) s = .next u ∧
      (b = 255 → t.hideFrames = (({ s with notices := { s.notices with
          queue := s.notices.queue.filter fun x : Notice => s.notices.sending = some x.number } }).answered 0x42 rq
        (.ok (u8 (s.notices.queue.filter fun x : Notice => s.notices.sending ≠ some x.number).length))).hideFrames) ∧
      (∀ k : Fin 8, b.toNat = k.1 → t.hideFrames = (({ s with notices := { s.notices with
          queue := s.notices.queue.filter fun x =>
            s.notices.sending = some x.number ∨ x.offer.turbine ≠ some k } }).answered 0x42 rq
        (.ok (u8 (s.notices.queue.filter fun x : Notice =>
            s.notices.sending ≠ some x.number ∧ x.offer.turbine = some k).length))).hideFrames) ∧
      (8 ≤ b.toNat → b ≠ 255 →
        t.hideFrames = (s.answered 0x42 rq (.plain .badIndex)).hideFrames) ∧
      (2 ≤ b.toNat →
        u.hideFrames = (s.answered 0x41 rq (.plain .badValue)).hideFrames) ∧
      ∀ m : DeliveryMode, b.toNat = m.code →
        (s.tables.global.mode = m →
          u.hideFrames = (s.answered 0x41 rq (.ok [])).hideFrames) ∧
        (s.tables.global.mode ≠ m →
          u.hideFrames = (({ s with
            tables := { s.tables with global := { s.tables.global with mode := m } }
            staged := { s.staged with tables := { s.staged.tables with
              global := { s.staged.tables.global with mode := m } } } }).answered 0x41 rq
            (.ok [])).hideFrames)

/-- R158 to R160: a MANUAL capture takes the lowest FREE slot with the ring as pre samples, or is refused by the first
test that holds. -/
def Obligations.CaptureChannelTakesSlot : Prop :=
  ∀ (rq : Request) (c : Fin 24) (s : State), s.ready → rq.args = [BitVec.ofNat 8 c.1] →
    ∃ t, exec (.captureChannel rq) s = .next t ∧
      (s.channels[c].state ≠ .running → s.channels[c].state ≠ .settling → t.hideFrames = (s.answered 0x50 rq
        (.refused .notRunning)).hideFrames) ∧
      ((s.channels[c].state = .running ∨ s.channels[c].state = .settling) →
        ((∃ k : Fin 2, s.slots[k].state = .filling ∧ s.slots[k].channel = c) → t.hideFrames = (s.answered 0x50 rq
          (.refused .channelBusy)).hideFrames) ∧
        ((∀ k : Fin 2, s.slots[k].state ≠ .free ∧ ¬(s.slots[k].state = .filling ∧ s.slots[k].channel = c)) →
          t.hideFrames = (s.answered 0x50 rq
            (.refused .noSlot)).hideFrames) ∧
        ∀ k : Fin 2, s.slots[k].state = .free → (∀ j : Fin 2, j < k → s.slots[j].state ≠ .free) →
          (∀ j : Fin 2, ¬(s.slots[j].state = .filling ∧ s.slots[j].channel = c)) →
          t.slots[k] = { state := .filling, channel := c, turbine := s.channels[c].config.entry.turbine,
                         trigger := .manual, origin := none, stamp := ⟨s.clock.day, s.clock.ms, s.clock.sync⟩,
                         counter := s.clock.counter, decimation := s.channels[c].config.entry.decimation,
                         gen := s.channels[c].gen, pre := s.channels[c].ring.length, post := 0, truncated := false,
                         samples := s.channels[c].ring } ∧
          (∀ j : Fin 2, j ≠ k → t.slots[j] = s.slots[j]) ∧
          t.hideFrames = (({ s with slots := t.slots }).answered 0x50 rq
            (.ok (u8 k.1))).hideFrames)

/-- R165, R214: Read capture returns the descriptor and one block of a HELD slot, and changes nothing; that the block
number stands ahead of the descriptor is the MODEL's deduction (log 37). R166: what Release does in each state of the
slot, queued CAPTURE notices staying; that the freed slot holds no samples is the MODEL's choice (log 26). -/
def Obligations.ReadAndReleaseCapture : Prop :=
  (∀ (rq : Request) (k b : Byte) (s : State), s.ready → rq.args = [k, b] →
    ∃ t a, exec (.readCapture rq) s = .next t ∧ t.hideFrames = (s.answered 0x51 rq a).hideFrames ∧
      (2 ≤ k.toNat → a = (.plain .badIndex)) ∧
      ∀ j : Fin 2, k.toNat = j.1 →
        (s.slots[j].state = .free → a = (.refused .empty)) ∧
        (s.slots[j].state = .filling → a = (.plain .notNow)) ∧
        (s.slots[j].state = .held → max 1 ((s.slots[j].pre + s.slots[j].post + 63) / 64) ≤ b.toNat →
          a = (.plain .badIndex)) ∧
        (s.slots[j].state = .held → b.toNat < max 1 ((s.slots[j].pre + s.slots[j].post + 63) / 64) →
          a = (.ok ([b] ++ s.slots[j].descriptor ++
                  ((s.slots[j].samples.drop (64 * b.toNat)).take 64).flatMap i16)))) ∧
  ∀ (rq : Request) (k : Byte) (s : State), s.ready → rq.args = [k] →
    ∃ t, exec (.releaseCapture rq) s = .next t ∧ t.notices.queue = s.notices.queue ∧
      (2 ≤ k.toNat →
        t.hideFrames = (s.answered 0x52 rq (.plain .badIndex)).hideFrames) ∧
      ∀ j : Fin 2, k.toNat = j.1 →
        (s.slots[j].state = .free →
          t.hideFrames = (s.answered 0x52 rq (.ok [])).hideFrames) ∧
        (s.slots[j].state = .filling →
          t.hideFrames = (s.answered 0x52 rq (.plain .notNow)).hideFrames) ∧
        (s.slots[j].state = .held →
          t.slots[j].state = .free ∧ t.slots[j].samples = [] ∧ (∀ i : Fin 2, i ≠ j → t.slots[i] = s.slots[i]) ∧
          t.hideFrames = (({ s with slots := t.slots }).answered 0x52 rq
            (.ok [])).hideFrames)

/-- R149 to R151: Done starts a new interval from the schedule day, and a REPLACE resets the alarm records or the
baselines its source names; its refusals change nothing. -/
def Obligations.DoneStartsNewInterval : Prop :=
  ∀ (rq : Request) (n : Fin 96) (s : State), s.ready → rq.args = [BitVec.ofNat 8 n.1] →
    ∃ t, exec (.done rq) s = .next t ∧
      (s.items[n].valid = false → t.hideFrames = (s.answered 0x60 rq
        (.refused .disabled)).hideFrames) ∧
      (s.items[n].valid = true → s.scheduleDay = none → t.hideFrames = (s.answered 0x60 rq
        (.refused .noTime)).hideFrames) ∧
      ∀ d, s.items[n].valid = true → s.scheduleDay = some d →
        t.items[n].usage = 0 ∧ t.items[n].dueDay = min (d + s.items[n].interval) 65535 ∧
        t.items[n].baseDue = min (d + s.items[n].interval) 65535 ∧ t.items[n].deferrals = 0 ∧
        t.items[n].lastDone = some d ∧ t.items[n].source = s.items[n].source ∧
        (∀ m : Fin 96, m ≠ n → t.items[m] = s.items[m]) ∧
        (∃ r, t.mgmt.reply = some r ∧ r.answer = (.ok [])) ∧
        t.tables = s.tables ∧ t.channels = s.channels ∧ t.slots = s.slots ∧ t.scheduleDay = s.scheduleDay ∧
        (∀ i : Fin 96, t.insts[i] =
          match s.items[n].task, s.items[n].source with
          | .replace, .vib ids _ =>
            if i ∈ ids then { s.insts[i] with alarm := ⟨0, 0, none, 0, none⟩ } else s.insts[i]
          | _, _ => s.insts[i]) ∧
        ∀ k : Fin 8, t.ice[k] =
          match s.items[n].task, s.items[n].source with
          | .replace, .ice _ =>
            if k = s.items[n].turbine then
              { s.ice[k] with blades := tabulate 3 fun b => { s.ice[k].blades[b] with b16 := 0, status := .none } }
            else s.ice[k]
          | _, _ => s.ice[k]

/-- R152, R153: Defer moves the due day by at most 90 days and counts a deferral, or is refused by the first test. -/
def Obligations.DeferMovesDueDay : Prop :=
  ∀ (rq : Request) (n : Fin 96) (hi lo : Byte) (days : Nat) (s : State), s.ready →
    rq.args = [BitVec.ofNat 8 n.1, hi, lo] → days = hi.toNat * 256 + lo.toNat →
    ∃ t, exec (.defer rq) s = .next t ∧
      (days = 0 → t.hideFrames = (s.answered 0x61 rq (.plain .badValue)).hideFrames) ∧
      (0 < days → s.items[n].valid = false → t.hideFrames = (s.answered 0x61 rq
        (.refused .disabled)).hideFrames) ∧
      (0 < days → s.items[n].valid = true → s.scheduleDay = none → t.hideFrames = (s.answered 0x61 rq
        (.refused .noTime)).hideFrames) ∧
      (0 < days → s.items[n].valid = true → s.scheduleDay.isSome = true → s.items[n].deferrals = 3 →
        t.hideFrames = (s.answered 0x61 rq
          (.refused .limit)).hideFrames) ∧
      (0 < days → s.items[n].valid = true → s.scheduleDay.isSome = true → s.items[n].deferrals ≠ 3 →
        0 < s.items[n].usageLimit → s.items[n].usageLimit ≤ s.items[n].usage →
        t.hideFrames = (s.answered 0x61 rq
          (.refused .usageDue)).hideFrames) ∧
      (0 < days → s.items[n].valid = true → s.scheduleDay.isSome = true → s.items[n].deferrals ≠ 3 →
        (s.items[n].usageLimit = 0 ∨ s.items[n].usage < s.items[n].usageLimit) →
        (s.dangerListed s.items[n] = true → t.hideFrames = (s.answered 0x61 rq
          (.refused .condition)).hideFrames) ∧
        (s.dangerListed s.items[n] = false →
          t.items[n].dueDay = min (s.items[n].dueDay + min days 90) 65535 ∧
          t.items[n].deferrals = s.items[n].deferrals + 1 ∧ t.items[n].baseDue = s.items[n].baseDue ∧
          t.items[n].usage = s.items[n].usage ∧ (∀ m : Fin 96, m ≠ n → t.items[m] = s.items[m]) ∧
          (∃ r, t.mgmt.reply = some r ∧ r.answer =
            { status := if 90 < days then .okAdjusted else .ok, reason := none, results := [] }) ∧
          t.tables = s.tables ∧ t.insts = s.insts ∧ t.ice = s.ice))

/-- R99, R100: Ice override returns a turbine that is not PRODUCING to CLEAR and keeps its baselines; Baseline reset
sets every baseline to NONE and touches nothing else. -/
def Obligations.IceOverrideAndBaselineReset : Prop :=
  ∀ (rq : Request) (k : Fin 8) (s : State), s.ready → rq.args = [BitVec.ofNat 8 k.1] →
    ∃ t u, exec (.iceOverride rq) s = .next t ∧ exec (.baselineReset rq) s = .next u ∧
      (s.turbines[k].freshness ≠ .none → s.turbines[k].status.op = .producing →
        t.hideFrames = (s.answered 0x70 rq
          (.refused .producing)).hideFrames) ∧
      (s.turbines[k].freshness = .none ∨ s.turbines[k].status.op ≠ .producing →
        t.ice[k] = { s.ice[k] with state := .clear, evidence := 0, clear := 0, thaw := 0 } ∧
        (s.ice[k].state ≠ .clear → t.turbines[k].curtail = .none) ∧
        (∀ j : Fin 8, j ≠ k → t.ice[j] = s.ice[j] ∧ t.turbines[j].curtail = s.turbines[j].curtail) ∧
        (∃ r, t.mgmt.reply = some r ∧ r.answer = (.ok [])) ∧
        (s.ice[k].state = .clear → t.notices.queue = s.notices.queue) ∧ t.tables = s.tables ∧ t.insts = s.insts) ∧
      u.hideFrames = (({ s with ice := upd s.ice k fun r => { r with
          blades := tabulate 3 fun b => { r.blades[b] with b16 := 0, status := .none } } }).answered 0x71 rq
        (.ok [])).hideFrames

/-- R209, R210: Restart FULL is only answered when it is taken; Restart PROCESSING keeps tables, staging, generation,
flags, clock, maintenance and icing, and returns the analysis to its start. -/
def Obligations.RestartRequestsAnswered : Prop :=
  ∀ (rq : Request) (s : State), s.ready → rq.args = [] →
    ∃ t u, exec (.restartFull rq) s = .next t ∧ exec (.restartProcessing rq) s = .next u ∧
      t.hideFrames = (s.answered 0xF0 rq (.ok [])).hideFrames ∧
      u.tables = s.tables ∧ u.staged = s.staged ∧ u.generation = s.generation ∧ u.errors = s.errors ∧
      u.clock = s.clock ∧ u.node = s.node ∧ u.items = s.items ∧ u.scheduleDay = s.scheduleDay ∧ u.ice = s.ice ∧
      u.counts = s.counts ∧ u.notices.next = s.notices.next ∧
      u.notices.queue = s.notices.queue.filter (fun x : Notice => s.notices.sending = some x.number) ∧
      u.analysis = .active ∧ u.landing = false ∧ u.channelReport = false ∧ u.gridReport = false ∧
      (∀ k : Fin 2, u.slots[k].state = .free) ∧
      (∀ i : Fin 96, u.insts[i].alarm = ⟨0, 0, none, 0, none⟩ ∧ u.insts[i].lastResult = none) ∧
      (∀ k : Fin 8, u.turbines[k].freshness = .none ∧ u.turbines[k].status = ⟨.stopped, 0, 0, 0, 0, 0⟩ ∧
        u.turbines[k].worst = 0 ∧ u.turbines[k].curtail = s.turbines[k].curtail) ∧
      (∀ c : Fin 24, u.channels[c].gen = s.generation ∧ u.channels[c].expect = none ∧
        u.channels[c].idleExpiry = none ∧ u.channels[c].marked = false ∧
        (u.channels[c].state = .idle ∨ u.channels[c].state = .unbound)) ∧
      (∀ p : Fin 2, u.points[p].alarm = .normal ∧ u.points[p].raiseCount = 0 ∧ u.points[p].clearCount = 0 ∧
        u.points[p].sync = .none ∧ u.points[p].lastResult = none ∧ u.points[p].expect = none ∧
        (u.points[p].intake = .idle ∨ u.points[p].intake = .unbound)) ∧
      ∃ r, u.mgmt.reply = some r ∧ r.answer = (.ok (u16 s.generation))

/-! ### Entry records -/

/-- R215 with R21, R26, R1, R180, R46, R79, R105 and R131: a record written from an entry in range stages to that entry,
unadjusted, for every table. That an absent item still has its bytes, all 0, is the MODEL's deduction (log 11). -/
def Obligations.RecordsStageUnchanged : Prop :=
  (∀ e : StreamEntry, stageStream (e.bytes ++ [0, 0, 0, 0, 0, 0]) = .stored e false) ∧
  (∀ e : ChannelEntry, e.InRange → stageChannel e.bytes = .stored e false) ∧
  (∀ e : TurbineEntry, e.InRange → stageTurbine e.bytes = .stored e false) ∧
  (∀ e : GlobalRecord, e.InRange → stageGlobal e.bytes = .stored e false) ∧
  (∀ e : BandEntry, e.InRange → stageBand e.bytes = .stored e false) ∧
  (∀ e : IceEntry, e.InRange → stageIce e.bytes = .stored e false) ∧
  (∀ e : GridEntry, e.InRange → stageGrid e.bytes = .stored e false) ∧
  ∀ e : MaintLoad, e.InRange → stageMaint e.bytes = .stored e false

/-! ### Invariants that every step keeps -/

/-- R186, R187, R189, R197: forward buffers, run counts, health counters and the request queue stay within their sizes. -/
def Obligations.StepKeepsLinkBounds : Prop :=
  ∀ s t : State, s.LinkBounded → step s = .next t → t.LinkBounded

/-- R172, R174, R176: the notice queue keeps its form. -/
def Obligations.StepKeepsNoticeQueueSound : Prop :=
  ∀ s t : State, s.notices.Sound → step s = .next t → t.notices.Sound

/-- R153: no entry exceeds three deferrals or 90 days for each. -/
def Obligations.StepKeepsDeferralBounds : Prop :=
  ∀ s t : State, (∀ n : Fin 96, s.items[n].Sound) → step s = .next t → ∀ n : Fin 96, t.items[n].Sound

/-- R94: a curtail request is NONE exactly when its turbine is neither ICED nor THAWING. -/
def Obligations.StepKeepsCurtailSound : Prop :=
  ∀ s t : State, s.CurtailSound → step s = .next t → t.CurtailSound

/-- R202: the current tables never hold two valid Stream Table entries with one target. -/
def Obligations.StepKeepsTargetsUnique : Prop :=
  ∀ s t : State, s.tables.TargetsUnique → step s = .next t → t.tables.TargetsUnique

/-- R33, R157 to R161: rings and slots stay within their sizes, and no channel fills two slots. -/
def Obligations.StepKeepsCaptureSound : Prop :=
  ∀ s t : State, s.CaptureSound → step s = .next t → t.CaptureSound

/-- The state after reset meets every invariant above. -/
def Obligations.ResetMeetsInvariants : Prop :=
  State.reset.LinkBounded ∧ State.reset.notices.Sound ∧ (∀ n : Fin 96, State.reset.items[n].Sound) ∧
    State.reset.CurtailSound ∧ State.reset.tables.TargetsUnique ∧ State.reset.CaptureSound
end

