-- ==== Sys2Proof/Laws/State.lean ====
section
/-! SUPPORT. One lemma per field per named update of State, and what the table updates read back. -/

namespace Sys2Proof

theorem tabulate_get {α : Type} (n : Nat) (f : Fin n → α) (i : Fin n) : (tabulate n f)[i] = f i := by
  simp [tabulate]

@[simp] theorem tabulate_getElem {α : Type} (n : Nat) (f : Fin n → α) (i : Nat) (h : i < n) :
    (tabulate n f)[i] = f ⟨i, h⟩ := by
  simp [tabulate]

theorem upd_getElem {α : Type} {n : Nat} (v : Vector α n) (i : Fin n) (f : α → α) (j : Nat) (h : j < n) :
    (upd v i f)[j] = if i.1 = j then f v[j] else v[j] := by
  unfold upd
  by_cases e : i.1 = j
  · subst e; simp
  · simp [e]

@[simp] theorem upd_same {α : Type} {n : Nat} (v : Vector α n) (i : Fin n) (f : α → α) : (upd v i f)[i] = f v[i] := by
  simp [upd_getElem]

theorem upd_other {α : Type} {n : Nat} (v : Vector α n) (i j : Fin n) (f : α → α) (h : j ≠ i) :
    (upd v i f)[j] = v[j] := by
  have : ¬ i.1 = j.1 := fun e => h (Fin.ext e.symm)
  simp [upd_getElem, this]

end Sys2Proof

namespace Sys2Proof.Machine

@[simp] theorem State.modTurbine_resetLow (s : State) (t : Fin 8) (f : Turbine → Turbine) : (s.modTurbine t f).resetLow = s.resetLow := rfl
@[simp] theorem State.modTurbine_node (s : State) (t : Fin 8) (f : Turbine → Turbine) : (s.modTurbine t f).node = s.node := rfl
@[simp] theorem State.modTurbine_link (s : State) (t : Fin 8) (f : Turbine → Turbine) : (s.modTurbine t f).link = s.link := rfl
@[simp] theorem State.modTurbine_clock (s : State) (t : Fin 8) (f : Turbine → Turbine) : (s.modTurbine t f).clock = s.clock := rfl
@[simp] theorem State.modTurbine_minuteTaken (s : State) (t : Fin 8) (f : Turbine → Turbine) : (s.modTurbine t f).minuteTaken = s.minuteTaken := rfl
@[simp] theorem State.modTurbine_tables (s : State) (t : Fin 8) (f : Turbine → Turbine) : (s.modTurbine t f).tables = s.tables := rfl
@[simp] theorem State.modTurbine_items (s : State) (t : Fin 8) (f : Turbine → Turbine) : (s.modTurbine t f).items = s.items := rfl
@[simp] theorem State.modTurbine_staged (s : State) (t : Fin 8) (f : Turbine → Turbine) : (s.modTurbine t f).staged = s.staged := rfl
@[simp] theorem State.modTurbine_counts (s : State) (t : Fin 8) (f : Turbine → Turbine) : (s.modTurbine t f).counts = s.counts := rfl
@[simp] theorem State.modTurbine_turbines (s : State) (t : Fin 8) (f : Turbine → Turbine) : (s.modTurbine t f).turbines = upd s.turbines t f := rfl
@[simp] theorem State.modTurbine_channels (s : State) (t : Fin 8) (f : Turbine → Turbine) : (s.modTurbine t f).channels = s.channels := rfl
@[simp] theorem State.modTurbine_insts (s : State) (t : Fin 8) (f : Turbine → Turbine) : (s.modTurbine t f).insts = s.insts := rfl
@[simp] theorem State.modTurbine_ice (s : State) (t : Fin 8) (f : Turbine → Turbine) : (s.modTurbine t f).ice = s.ice := rfl
@[simp] theorem State.modTurbine_points (s : State) (t : Fin 8) (f : Turbine → Turbine) : (s.modTurbine t f).points = s.points := rfl
@[simp] theorem State.modTurbine_scheduleDay (s : State) (t : Fin 8) (f : Turbine → Turbine) : (s.modTurbine t f).scheduleDay = s.scheduleDay := rfl
@[simp] theorem State.modTurbine_slots (s : State) (t : Fin 8) (f : Turbine → Turbine) : (s.modTurbine t f).slots = s.slots := rfl
@[simp] theorem State.modTurbine_notices (s : State) (t : Fin 8) (f : Turbine → Turbine) : (s.modTurbine t f).notices = s.notices := rfl
@[simp] theorem State.modTurbine_mgmt (s : State) (t : Fin 8) (f : Turbine → Turbine) : (s.modTurbine t f).mgmt = s.mgmt := rfl
@[simp] theorem State.modTurbine_generation (s : State) (t : Fin 8) (f : Turbine → Turbine) : (s.modTurbine t f).generation = s.generation := rfl
@[simp] theorem State.modTurbine_landing (s : State) (t : Fin 8) (f : Turbine → Turbine) : (s.modTurbine t f).landing = s.landing := rfl
@[simp] theorem State.modTurbine_analysis (s : State) (t : Fin 8) (f : Turbine → Turbine) : (s.modTurbine t f).analysis = s.analysis := rfl
@[simp] theorem State.modTurbine_channelReport (s : State) (t : Fin 8) (f : Turbine → Turbine) : (s.modTurbine t f).channelReport = s.channelReport := rfl
@[simp] theorem State.modTurbine_gridReport (s : State) (t : Fin 8) (f : Turbine → Turbine) : (s.modTurbine t f).gridReport = s.gridReport := rfl
@[simp] theorem State.modTurbine_errors (s : State) (t : Fin 8) (f : Turbine → Turbine) : (s.modTurbine t f).errors = s.errors := rfl
@[simp] theorem State.modTurbine_pending (s : State) (t : Fin 8) (f : Turbine → Turbine) : (s.modTurbine t f).pending = s.pending := rfl

@[simp] theorem State.modChannel_resetLow (s : State) (c : Fin 24) (f : Channel → Channel) : (s.modChannel c f).resetLow = s.resetLow := rfl
@[simp] theorem State.modChannel_node (s : State) (c : Fin 24) (f : Channel → Channel) : (s.modChannel c f).node = s.node := rfl
@[simp] theorem State.modChannel_link (s : State) (c : Fin 24) (f : Channel → Channel) : (s.modChannel c f).link = s.link := rfl
@[simp] theorem State.modChannel_clock (s : State) (c : Fin 24) (f : Channel → Channel) : (s.modChannel c f).clock = s.clock := rfl
@[simp] theorem State.modChannel_minuteTaken (s : State) (c : Fin 24) (f : Channel → Channel) : (s.modChannel c f).minuteTaken = s.minuteTaken := rfl
@[simp] theorem State.modChannel_tables (s : State) (c : Fin 24) (f : Channel → Channel) : (s.modChannel c f).tables = s.tables := rfl
@[simp] theorem State.modChannel_items (s : State) (c : Fin 24) (f : Channel → Channel) : (s.modChannel c f).items = s.items := rfl
@[simp] theorem State.modChannel_staged (s : State) (c : Fin 24) (f : Channel → Channel) : (s.modChannel c f).staged = s.staged := rfl
@[simp] theorem State.modChannel_counts (s : State) (c : Fin 24) (f : Channel → Channel) : (s.modChannel c f).counts = s.counts := rfl
@[simp] theorem State.modChannel_turbines (s : State) (c : Fin 24) (f : Channel → Channel) : (s.modChannel c f).turbines = s.turbines := rfl
@[simp] theorem State.modChannel_channels (s : State) (c : Fin 24) (f : Channel → Channel) : (s.modChannel c f).channels = upd s.channels c f := rfl
@[simp] theorem State.modChannel_insts (s : State) (c : Fin 24) (f : Channel → Channel) : (s.modChannel c f).insts = s.insts := rfl
@[simp] theorem State.modChannel_ice (s : State) (c : Fin 24) (f : Channel → Channel) : (s.modChannel c f).ice = s.ice := rfl
@[simp] theorem State.modChannel_points (s : State) (c : Fin 24) (f : Channel → Channel) : (s.modChannel c f).points = s.points := rfl
@[simp] theorem State.modChannel_scheduleDay (s : State) (c : Fin 24) (f : Channel → Channel) : (s.modChannel c f).scheduleDay = s.scheduleDay := rfl
@[simp] theorem State.modChannel_slots (s : State) (c : Fin 24) (f : Channel → Channel) : (s.modChannel c f).slots = s.slots := rfl
@[simp] theorem State.modChannel_notices (s : State) (c : Fin 24) (f : Channel → Channel) : (s.modChannel c f).notices = s.notices := rfl
@[simp] theorem State.modChannel_mgmt (s : State) (c : Fin 24) (f : Channel → Channel) : (s.modChannel c f).mgmt = s.mgmt := rfl
@[simp] theorem State.modChannel_generation (s : State) (c : Fin 24) (f : Channel → Channel) : (s.modChannel c f).generation = s.generation := rfl
@[simp] theorem State.modChannel_landing (s : State) (c : Fin 24) (f : Channel → Channel) : (s.modChannel c f).landing = s.landing := rfl
@[simp] theorem State.modChannel_analysis (s : State) (c : Fin 24) (f : Channel → Channel) : (s.modChannel c f).analysis = s.analysis := rfl
@[simp] theorem State.modChannel_channelReport (s : State) (c : Fin 24) (f : Channel → Channel) : (s.modChannel c f).channelReport = s.channelReport := rfl
@[simp] theorem State.modChannel_gridReport (s : State) (c : Fin 24) (f : Channel → Channel) : (s.modChannel c f).gridReport = s.gridReport := rfl
@[simp] theorem State.modChannel_errors (s : State) (c : Fin 24) (f : Channel → Channel) : (s.modChannel c f).errors = s.errors := rfl
@[simp] theorem State.modChannel_pending (s : State) (c : Fin 24) (f : Channel → Channel) : (s.modChannel c f).pending = s.pending := rfl

@[simp] theorem State.modInst_resetLow (s : State) (i : Fin 96) (f : Inst → Inst) : (s.modInst i f).resetLow = s.resetLow := rfl
@[simp] theorem State.modInst_node (s : State) (i : Fin 96) (f : Inst → Inst) : (s.modInst i f).node = s.node := rfl
@[simp] theorem State.modInst_link (s : State) (i : Fin 96) (f : Inst → Inst) : (s.modInst i f).link = s.link := rfl
@[simp] theorem State.modInst_clock (s : State) (i : Fin 96) (f : Inst → Inst) : (s.modInst i f).clock = s.clock := rfl
@[simp] theorem State.modInst_minuteTaken (s : State) (i : Fin 96) (f : Inst → Inst) : (s.modInst i f).minuteTaken = s.minuteTaken := rfl
@[simp] theorem State.modInst_tables (s : State) (i : Fin 96) (f : Inst → Inst) : (s.modInst i f).tables = s.tables := rfl
@[simp] theorem State.modInst_items (s : State) (i : Fin 96) (f : Inst → Inst) : (s.modInst i f).items = s.items := rfl
@[simp] theorem State.modInst_staged (s : State) (i : Fin 96) (f : Inst → Inst) : (s.modInst i f).staged = s.staged := rfl
@[simp] theorem State.modInst_counts (s : State) (i : Fin 96) (f : Inst → Inst) : (s.modInst i f).counts = s.counts := rfl
@[simp] theorem State.modInst_turbines (s : State) (i : Fin 96) (f : Inst → Inst) : (s.modInst i f).turbines = s.turbines := rfl
@[simp] theorem State.modInst_channels (s : State) (i : Fin 96) (f : Inst → Inst) : (s.modInst i f).channels = s.channels := rfl
@[simp] theorem State.modInst_insts (s : State) (i : Fin 96) (f : Inst → Inst) : (s.modInst i f).insts = upd s.insts i f := rfl
@[simp] theorem State.modInst_ice (s : State) (i : Fin 96) (f : Inst → Inst) : (s.modInst i f).ice = s.ice := rfl
@[simp] theorem State.modInst_points (s : State) (i : Fin 96) (f : Inst → Inst) : (s.modInst i f).points = s.points := rfl
@[simp] theorem State.modInst_scheduleDay (s : State) (i : Fin 96) (f : Inst → Inst) : (s.modInst i f).scheduleDay = s.scheduleDay := rfl
@[simp] theorem State.modInst_slots (s : State) (i : Fin 96) (f : Inst → Inst) : (s.modInst i f).slots = s.slots := rfl
@[simp] theorem State.modInst_notices (s : State) (i : Fin 96) (f : Inst → Inst) : (s.modInst i f).notices = s.notices := rfl
@[simp] theorem State.modInst_mgmt (s : State) (i : Fin 96) (f : Inst → Inst) : (s.modInst i f).mgmt = s.mgmt := rfl
@[simp] theorem State.modInst_generation (s : State) (i : Fin 96) (f : Inst → Inst) : (s.modInst i f).generation = s.generation := rfl
@[simp] theorem State.modInst_landing (s : State) (i : Fin 96) (f : Inst → Inst) : (s.modInst i f).landing = s.landing := rfl
@[simp] theorem State.modInst_analysis (s : State) (i : Fin 96) (f : Inst → Inst) : (s.modInst i f).analysis = s.analysis := rfl
@[simp] theorem State.modInst_channelReport (s : State) (i : Fin 96) (f : Inst → Inst) : (s.modInst i f).channelReport = s.channelReport := rfl
@[simp] theorem State.modInst_gridReport (s : State) (i : Fin 96) (f : Inst → Inst) : (s.modInst i f).gridReport = s.gridReport := rfl
@[simp] theorem State.modInst_errors (s : State) (i : Fin 96) (f : Inst → Inst) : (s.modInst i f).errors = s.errors := rfl
@[simp] theorem State.modInst_pending (s : State) (i : Fin 96) (f : Inst → Inst) : (s.modInst i f).pending = s.pending := rfl

@[simp] theorem State.mapInsts_resetLow (s : State) (f : Fin 96 → Inst → Inst) : (s.mapInsts f).resetLow = s.resetLow := rfl
@[simp] theorem State.mapInsts_node (s : State) (f : Fin 96 → Inst → Inst) : (s.mapInsts f).node = s.node := rfl
@[simp] theorem State.mapInsts_link (s : State) (f : Fin 96 → Inst → Inst) : (s.mapInsts f).link = s.link := rfl
@[simp] theorem State.mapInsts_clock (s : State) (f : Fin 96 → Inst → Inst) : (s.mapInsts f).clock = s.clock := rfl
@[simp] theorem State.mapInsts_minuteTaken (s : State) (f : Fin 96 → Inst → Inst) : (s.mapInsts f).minuteTaken = s.minuteTaken := rfl
@[simp] theorem State.mapInsts_tables (s : State) (f : Fin 96 → Inst → Inst) : (s.mapInsts f).tables = s.tables := rfl
@[simp] theorem State.mapInsts_items (s : State) (f : Fin 96 → Inst → Inst) : (s.mapInsts f).items = s.items := rfl
@[simp] theorem State.mapInsts_staged (s : State) (f : Fin 96 → Inst → Inst) : (s.mapInsts f).staged = s.staged := rfl
@[simp] theorem State.mapInsts_counts (s : State) (f : Fin 96 → Inst → Inst) : (s.mapInsts f).counts = s.counts := rfl
@[simp] theorem State.mapInsts_turbines (s : State) (f : Fin 96 → Inst → Inst) : (s.mapInsts f).turbines = s.turbines := rfl
@[simp] theorem State.mapInsts_channels (s : State) (f : Fin 96 → Inst → Inst) : (s.mapInsts f).channels = s.channels := rfl
@[simp] theorem State.mapInsts_insts (s : State) (f : Fin 96 → Inst → Inst) : (s.mapInsts f).insts = tabulate 96 fun i => f i s.insts[i] := rfl
@[simp] theorem State.mapInsts_ice (s : State) (f : Fin 96 → Inst → Inst) : (s.mapInsts f).ice = s.ice := rfl
@[simp] theorem State.mapInsts_points (s : State) (f : Fin 96 → Inst → Inst) : (s.mapInsts f).points = s.points := rfl
@[simp] theorem State.mapInsts_scheduleDay (s : State) (f : Fin 96 → Inst → Inst) : (s.mapInsts f).scheduleDay = s.scheduleDay := rfl
@[simp] theorem State.mapInsts_slots (s : State) (f : Fin 96 → Inst → Inst) : (s.mapInsts f).slots = s.slots := rfl
@[simp] theorem State.mapInsts_notices (s : State) (f : Fin 96 → Inst → Inst) : (s.mapInsts f).notices = s.notices := rfl
@[simp] theorem State.mapInsts_mgmt (s : State) (f : Fin 96 → Inst → Inst) : (s.mapInsts f).mgmt = s.mgmt := rfl
@[simp] theorem State.mapInsts_generation (s : State) (f : Fin 96 → Inst → Inst) : (s.mapInsts f).generation = s.generation := rfl
@[simp] theorem State.mapInsts_landing (s : State) (f : Fin 96 → Inst → Inst) : (s.mapInsts f).landing = s.landing := rfl
@[simp] theorem State.mapInsts_analysis (s : State) (f : Fin 96 → Inst → Inst) : (s.mapInsts f).analysis = s.analysis := rfl
@[simp] theorem State.mapInsts_channelReport (s : State) (f : Fin 96 → Inst → Inst) : (s.mapInsts f).channelReport = s.channelReport := rfl
@[simp] theorem State.mapInsts_gridReport (s : State) (f : Fin 96 → Inst → Inst) : (s.mapInsts f).gridReport = s.gridReport := rfl
@[simp] theorem State.mapInsts_errors (s : State) (f : Fin 96 → Inst → Inst) : (s.mapInsts f).errors = s.errors := rfl
@[simp] theorem State.mapInsts_pending (s : State) (f : Fin 96 → Inst → Inst) : (s.mapInsts f).pending = s.pending := rfl

@[simp] theorem State.modIce_resetLow (s : State) (t : Fin 8) (f : IceRecord → IceRecord) : (s.modIce t f).resetLow = s.resetLow := rfl
@[simp] theorem State.modIce_node (s : State) (t : Fin 8) (f : IceRecord → IceRecord) : (s.modIce t f).node = s.node := rfl
@[simp] theorem State.modIce_link (s : State) (t : Fin 8) (f : IceRecord → IceRecord) : (s.modIce t f).link = s.link := rfl
@[simp] theorem State.modIce_clock (s : State) (t : Fin 8) (f : IceRecord → IceRecord) : (s.modIce t f).clock = s.clock := rfl
@[simp] theorem State.modIce_minuteTaken (s : State) (t : Fin 8) (f : IceRecord → IceRecord) : (s.modIce t f).minuteTaken = s.minuteTaken := rfl
@[simp] theorem State.modIce_tables (s : State) (t : Fin 8) (f : IceRecord → IceRecord) : (s.modIce t f).tables = s.tables := rfl
@[simp] theorem State.modIce_items (s : State) (t : Fin 8) (f : IceRecord → IceRecord) : (s.modIce t f).items = s.items := rfl
@[simp] theorem State.modIce_staged (s : State) (t : Fin 8) (f : IceRecord → IceRecord) : (s.modIce t f).staged = s.staged := rfl
@[simp] theorem State.modIce_counts (s : State) (t : Fin 8) (f : IceRecord → IceRecord) : (s.modIce t f).counts = s.counts := rfl
@[simp] theorem State.modIce_turbines (s : State) (t : Fin 8) (f : IceRecord → IceRecord) : (s.modIce t f).turbines = s.turbines := rfl
@[simp] theorem State.modIce_channels (s : State) (t : Fin 8) (f : IceRecord → IceRecord) : (s.modIce t f).channels = s.channels := rfl
@[simp] theorem State.modIce_insts (s : State) (t : Fin 8) (f : IceRecord → IceRecord) : (s.modIce t f).insts = s.insts := rfl
@[simp] theorem State.modIce_ice (s : State) (t : Fin 8) (f : IceRecord → IceRecord) : (s.modIce t f).ice = upd s.ice t f := rfl
@[simp] theorem State.modIce_points (s : State) (t : Fin 8) (f : IceRecord → IceRecord) : (s.modIce t f).points = s.points := rfl
@[simp] theorem State.modIce_scheduleDay (s : State) (t : Fin 8) (f : IceRecord → IceRecord) : (s.modIce t f).scheduleDay = s.scheduleDay := rfl
@[simp] theorem State.modIce_slots (s : State) (t : Fin 8) (f : IceRecord → IceRecord) : (s.modIce t f).slots = s.slots := rfl
@[simp] theorem State.modIce_notices (s : State) (t : Fin 8) (f : IceRecord → IceRecord) : (s.modIce t f).notices = s.notices := rfl
@[simp] theorem State.modIce_mgmt (s : State) (t : Fin 8) (f : IceRecord → IceRecord) : (s.modIce t f).mgmt = s.mgmt := rfl
@[simp] theorem State.modIce_generation (s : State) (t : Fin 8) (f : IceRecord → IceRecord) : (s.modIce t f).generation = s.generation := rfl
@[simp] theorem State.modIce_landing (s : State) (t : Fin 8) (f : IceRecord → IceRecord) : (s.modIce t f).landing = s.landing := rfl
@[simp] theorem State.modIce_analysis (s : State) (t : Fin 8) (f : IceRecord → IceRecord) : (s.modIce t f).analysis = s.analysis := rfl
@[simp] theorem State.modIce_channelReport (s : State) (t : Fin 8) (f : IceRecord → IceRecord) : (s.modIce t f).channelReport = s.channelReport := rfl
@[simp] theorem State.modIce_gridReport (s : State) (t : Fin 8) (f : IceRecord → IceRecord) : (s.modIce t f).gridReport = s.gridReport := rfl
@[simp] theorem State.modIce_errors (s : State) (t : Fin 8) (f : IceRecord → IceRecord) : (s.modIce t f).errors = s.errors := rfl
@[simp] theorem State.modIce_pending (s : State) (t : Fin 8) (f : IceRecord → IceRecord) : (s.modIce t f).pending = s.pending := rfl

@[simp] theorem State.modPoint_resetLow (s : State) (p : Fin 2) (f : GridPoint → GridPoint) : (s.modPoint p f).resetLow = s.resetLow := rfl
@[simp] theorem State.modPoint_node (s : State) (p : Fin 2) (f : GridPoint → GridPoint) : (s.modPoint p f).node = s.node := rfl
@[simp] theorem State.modPoint_link (s : State) (p : Fin 2) (f : GridPoint → GridPoint) : (s.modPoint p f).link = s.link := rfl
@[simp] theorem State.modPoint_clock (s : State) (p : Fin 2) (f : GridPoint → GridPoint) : (s.modPoint p f).clock = s.clock := rfl
@[simp] theorem State.modPoint_minuteTaken (s : State) (p : Fin 2) (f : GridPoint → GridPoint) : (s.modPoint p f).minuteTaken = s.minuteTaken := rfl
@[simp] theorem State.modPoint_tables (s : State) (p : Fin 2) (f : GridPoint → GridPoint) : (s.modPoint p f).tables = s.tables := rfl
@[simp] theorem State.modPoint_items (s : State) (p : Fin 2) (f : GridPoint → GridPoint) : (s.modPoint p f).items = s.items := rfl
@[simp] theorem State.modPoint_staged (s : State) (p : Fin 2) (f : GridPoint → GridPoint) : (s.modPoint p f).staged = s.staged := rfl
@[simp] theorem State.modPoint_counts (s : State) (p : Fin 2) (f : GridPoint → GridPoint) : (s.modPoint p f).counts = s.counts := rfl
@[simp] theorem State.modPoint_turbines (s : State) (p : Fin 2) (f : GridPoint → GridPoint) : (s.modPoint p f).turbines = s.turbines := rfl
@[simp] theorem State.modPoint_channels (s : State) (p : Fin 2) (f : GridPoint → GridPoint) : (s.modPoint p f).channels = s.channels := rfl
@[simp] theorem State.modPoint_insts (s : State) (p : Fin 2) (f : GridPoint → GridPoint) : (s.modPoint p f).insts = s.insts := rfl
@[simp] theorem State.modPoint_ice (s : State) (p : Fin 2) (f : GridPoint → GridPoint) : (s.modPoint p f).ice = s.ice := rfl
@[simp] theorem State.modPoint_points (s : State) (p : Fin 2) (f : GridPoint → GridPoint) : (s.modPoint p f).points = upd s.points p f := rfl
@[simp] theorem State.modPoint_scheduleDay (s : State) (p : Fin 2) (f : GridPoint → GridPoint) : (s.modPoint p f).scheduleDay = s.scheduleDay := rfl
@[simp] theorem State.modPoint_slots (s : State) (p : Fin 2) (f : GridPoint → GridPoint) : (s.modPoint p f).slots = s.slots := rfl
@[simp] theorem State.modPoint_notices (s : State) (p : Fin 2) (f : GridPoint → GridPoint) : (s.modPoint p f).notices = s.notices := rfl
@[simp] theorem State.modPoint_mgmt (s : State) (p : Fin 2) (f : GridPoint → GridPoint) : (s.modPoint p f).mgmt = s.mgmt := rfl
@[simp] theorem State.modPoint_generation (s : State) (p : Fin 2) (f : GridPoint → GridPoint) : (s.modPoint p f).generation = s.generation := rfl
@[simp] theorem State.modPoint_landing (s : State) (p : Fin 2) (f : GridPoint → GridPoint) : (s.modPoint p f).landing = s.landing := rfl
@[simp] theorem State.modPoint_analysis (s : State) (p : Fin 2) (f : GridPoint → GridPoint) : (s.modPoint p f).analysis = s.analysis := rfl
@[simp] theorem State.modPoint_channelReport (s : State) (p : Fin 2) (f : GridPoint → GridPoint) : (s.modPoint p f).channelReport = s.channelReport := rfl
@[simp] theorem State.modPoint_gridReport (s : State) (p : Fin 2) (f : GridPoint → GridPoint) : (s.modPoint p f).gridReport = s.gridReport := rfl
@[simp] theorem State.modPoint_errors (s : State) (p : Fin 2) (f : GridPoint → GridPoint) : (s.modPoint p f).errors = s.errors := rfl
@[simp] theorem State.modPoint_pending (s : State) (p : Fin 2) (f : GridPoint → GridPoint) : (s.modPoint p f).pending = s.pending := rfl

@[simp] theorem State.modSlot_resetLow (s : State) (k : Fin 2) (f : Slot → Slot) : (s.modSlot k f).resetLow = s.resetLow := rfl
@[simp] theorem State.modSlot_node (s : State) (k : Fin 2) (f : Slot → Slot) : (s.modSlot k f).node = s.node := rfl
@[simp] theorem State.modSlot_link (s : State) (k : Fin 2) (f : Slot → Slot) : (s.modSlot k f).link = s.link := rfl
@[simp] theorem State.modSlot_clock (s : State) (k : Fin 2) (f : Slot → Slot) : (s.modSlot k f).clock = s.clock := rfl
@[simp] theorem State.modSlot_minuteTaken (s : State) (k : Fin 2) (f : Slot → Slot) : (s.modSlot k f).minuteTaken = s.minuteTaken := rfl
@[simp] theorem State.modSlot_tables (s : State) (k : Fin 2) (f : Slot → Slot) : (s.modSlot k f).tables = s.tables := rfl
@[simp] theorem State.modSlot_items (s : State) (k : Fin 2) (f : Slot → Slot) : (s.modSlot k f).items = s.items := rfl
@[simp] theorem State.modSlot_staged (s : State) (k : Fin 2) (f : Slot → Slot) : (s.modSlot k f).staged = s.staged := rfl
@[simp] theorem State.modSlot_counts (s : State) (k : Fin 2) (f : Slot → Slot) : (s.modSlot k f).counts = s.counts := rfl
@[simp] theorem State.modSlot_turbines (s : State) (k : Fin 2) (f : Slot → Slot) : (s.modSlot k f).turbines = s.turbines := rfl
@[simp] theorem State.modSlot_channels (s : State) (k : Fin 2) (f : Slot → Slot) : (s.modSlot k f).channels = s.channels := rfl
@[simp] theorem State.modSlot_insts (s : State) (k : Fin 2) (f : Slot → Slot) : (s.modSlot k f).insts = s.insts := rfl
@[simp] theorem State.modSlot_ice (s : State) (k : Fin 2) (f : Slot → Slot) : (s.modSlot k f).ice = s.ice := rfl
@[simp] theorem State.modSlot_points (s : State) (k : Fin 2) (f : Slot → Slot) : (s.modSlot k f).points = s.points := rfl
@[simp] theorem State.modSlot_scheduleDay (s : State) (k : Fin 2) (f : Slot → Slot) : (s.modSlot k f).scheduleDay = s.scheduleDay := rfl
@[simp] theorem State.modSlot_slots (s : State) (k : Fin 2) (f : Slot → Slot) : (s.modSlot k f).slots = upd s.slots k f := rfl
@[simp] theorem State.modSlot_notices (s : State) (k : Fin 2) (f : Slot → Slot) : (s.modSlot k f).notices = s.notices := rfl
@[simp] theorem State.modSlot_mgmt (s : State) (k : Fin 2) (f : Slot → Slot) : (s.modSlot k f).mgmt = s.mgmt := rfl
@[simp] theorem State.modSlot_generation (s : State) (k : Fin 2) (f : Slot → Slot) : (s.modSlot k f).generation = s.generation := rfl
@[simp] theorem State.modSlot_landing (s : State) (k : Fin 2) (f : Slot → Slot) : (s.modSlot k f).landing = s.landing := rfl
@[simp] theorem State.modSlot_analysis (s : State) (k : Fin 2) (f : Slot → Slot) : (s.modSlot k f).analysis = s.analysis := rfl
@[simp] theorem State.modSlot_channelReport (s : State) (k : Fin 2) (f : Slot → Slot) : (s.modSlot k f).channelReport = s.channelReport := rfl
@[simp] theorem State.modSlot_gridReport (s : State) (k : Fin 2) (f : Slot → Slot) : (s.modSlot k f).gridReport = s.gridReport := rfl
@[simp] theorem State.modSlot_errors (s : State) (k : Fin 2) (f : Slot → Slot) : (s.modSlot k f).errors = s.errors := rfl
@[simp] theorem State.modSlot_pending (s : State) (k : Fin 2) (f : Slot → Slot) : (s.modSlot k f).pending = s.pending := rfl

@[simp] theorem State.modItem_resetLow (s : State) (e : Fin 96) (f : MaintItem → MaintItem) : (s.modItem e f).resetLow = s.resetLow := rfl
@[simp] theorem State.modItem_node (s : State) (e : Fin 96) (f : MaintItem → MaintItem) : (s.modItem e f).node = s.node := rfl
@[simp] theorem State.modItem_link (s : State) (e : Fin 96) (f : MaintItem → MaintItem) : (s.modItem e f).link = s.link := rfl
@[simp] theorem State.modItem_clock (s : State) (e : Fin 96) (f : MaintItem → MaintItem) : (s.modItem e f).clock = s.clock := rfl
@[simp] theorem State.modItem_minuteTaken (s : State) (e : Fin 96) (f : MaintItem → MaintItem) : (s.modItem e f).minuteTaken = s.minuteTaken := rfl
@[simp] theorem State.modItem_tables (s : State) (e : Fin 96) (f : MaintItem → MaintItem) : (s.modItem e f).tables = s.tables := rfl
@[simp] theorem State.modItem_items (s : State) (e : Fin 96) (f : MaintItem → MaintItem) : (s.modItem e f).items = upd s.items e f := rfl
@[simp] theorem State.modItem_staged (s : State) (e : Fin 96) (f : MaintItem → MaintItem) : (s.modItem e f).staged = s.staged := rfl
@[simp] theorem State.modItem_counts (s : State) (e : Fin 96) (f : MaintItem → MaintItem) : (s.modItem e f).counts = s.counts := rfl
@[simp] theorem State.modItem_turbines (s : State) (e : Fin 96) (f : MaintItem → MaintItem) : (s.modItem e f).turbines = s.turbines := rfl
@[simp] theorem State.modItem_channels (s : State) (e : Fin 96) (f : MaintItem → MaintItem) : (s.modItem e f).channels = s.channels := rfl
@[simp] theorem State.modItem_insts (s : State) (e : Fin 96) (f : MaintItem → MaintItem) : (s.modItem e f).insts = s.insts := rfl
@[simp] theorem State.modItem_ice (s : State) (e : Fin 96) (f : MaintItem → MaintItem) : (s.modItem e f).ice = s.ice := rfl
@[simp] theorem State.modItem_points (s : State) (e : Fin 96) (f : MaintItem → MaintItem) : (s.modItem e f).points = s.points := rfl
@[simp] theorem State.modItem_scheduleDay (s : State) (e : Fin 96) (f : MaintItem → MaintItem) : (s.modItem e f).scheduleDay = s.scheduleDay := rfl
@[simp] theorem State.modItem_slots (s : State) (e : Fin 96) (f : MaintItem → MaintItem) : (s.modItem e f).slots = s.slots := rfl
@[simp] theorem State.modItem_notices (s : State) (e : Fin 96) (f : MaintItem → MaintItem) : (s.modItem e f).notices = s.notices := rfl
@[simp] theorem State.modItem_mgmt (s : State) (e : Fin 96) (f : MaintItem → MaintItem) : (s.modItem e f).mgmt = s.mgmt := rfl
@[simp] theorem State.modItem_generation (s : State) (e : Fin 96) (f : MaintItem → MaintItem) : (s.modItem e f).generation = s.generation := rfl
@[simp] theorem State.modItem_landing (s : State) (e : Fin 96) (f : MaintItem → MaintItem) : (s.modItem e f).landing = s.landing := rfl
@[simp] theorem State.modItem_analysis (s : State) (e : Fin 96) (f : MaintItem → MaintItem) : (s.modItem e f).analysis = s.analysis := rfl
@[simp] theorem State.modItem_channelReport (s : State) (e : Fin 96) (f : MaintItem → MaintItem) : (s.modItem e f).channelReport = s.channelReport := rfl
@[simp] theorem State.modItem_gridReport (s : State) (e : Fin 96) (f : MaintItem → MaintItem) : (s.modItem e f).gridReport = s.gridReport := rfl
@[simp] theorem State.modItem_errors (s : State) (e : Fin 96) (f : MaintItem → MaintItem) : (s.modItem e f).errors = s.errors := rfl
@[simp] theorem State.modItem_pending (s : State) (e : Fin 96) (f : MaintItem → MaintItem) : (s.modItem e f).pending = s.pending := rfl

@[simp] theorem State.modCounts_resetLow (s : State) (e : Fin 64) (f : StreamCounts → StreamCounts) : (s.modCounts e f).resetLow = s.resetLow := rfl
@[simp] theorem State.modCounts_node (s : State) (e : Fin 64) (f : StreamCounts → StreamCounts) : (s.modCounts e f).node = s.node := rfl
@[simp] theorem State.modCounts_link (s : State) (e : Fin 64) (f : StreamCounts → StreamCounts) : (s.modCounts e f).link = s.link := rfl
@[simp] theorem State.modCounts_clock (s : State) (e : Fin 64) (f : StreamCounts → StreamCounts) : (s.modCounts e f).clock = s.clock := rfl
@[simp] theorem State.modCounts_minuteTaken (s : State) (e : Fin 64) (f : StreamCounts → StreamCounts) : (s.modCounts e f).minuteTaken = s.minuteTaken := rfl
@[simp] theorem State.modCounts_tables (s : State) (e : Fin 64) (f : StreamCounts → StreamCounts) : (s.modCounts e f).tables = s.tables := rfl
@[simp] theorem State.modCounts_items (s : State) (e : Fin 64) (f : StreamCounts → StreamCounts) : (s.modCounts e f).items = s.items := rfl
@[simp] theorem State.modCounts_staged (s : State) (e : Fin 64) (f : StreamCounts → StreamCounts) : (s.modCounts e f).staged = s.staged := rfl
@[simp] theorem State.modCounts_counts (s : State) (e : Fin 64) (f : StreamCounts → StreamCounts) : (s.modCounts e f).counts = upd s.counts e f := rfl
@[simp] theorem State.modCounts_turbines (s : State) (e : Fin 64) (f : StreamCounts → StreamCounts) : (s.modCounts e f).turbines = s.turbines := rfl
@[simp] theorem State.modCounts_channels (s : State) (e : Fin 64) (f : StreamCounts → StreamCounts) : (s.modCounts e f).channels = s.channels := rfl
@[simp] theorem State.modCounts_insts (s : State) (e : Fin 64) (f : StreamCounts → StreamCounts) : (s.modCounts e f).insts = s.insts := rfl
@[simp] theorem State.modCounts_ice (s : State) (e : Fin 64) (f : StreamCounts → StreamCounts) : (s.modCounts e f).ice = s.ice := rfl
@[simp] theorem State.modCounts_points (s : State) (e : Fin 64) (f : StreamCounts → StreamCounts) : (s.modCounts e f).points = s.points := rfl
@[simp] theorem State.modCounts_scheduleDay (s : State) (e : Fin 64) (f : StreamCounts → StreamCounts) : (s.modCounts e f).scheduleDay = s.scheduleDay := rfl
@[simp] theorem State.modCounts_slots (s : State) (e : Fin 64) (f : StreamCounts → StreamCounts) : (s.modCounts e f).slots = s.slots := rfl
@[simp] theorem State.modCounts_notices (s : State) (e : Fin 64) (f : StreamCounts → StreamCounts) : (s.modCounts e f).notices = s.notices := rfl
@[simp] theorem State.modCounts_mgmt (s : State) (e : Fin 64) (f : StreamCounts → StreamCounts) : (s.modCounts e f).mgmt = s.mgmt := rfl
@[simp] theorem State.modCounts_generation (s : State) (e : Fin 64) (f : StreamCounts → StreamCounts) : (s.modCounts e f).generation = s.generation := rfl
@[simp] theorem State.modCounts_landing (s : State) (e : Fin 64) (f : StreamCounts → StreamCounts) : (s.modCounts e f).landing = s.landing := rfl
@[simp] theorem State.modCounts_analysis (s : State) (e : Fin 64) (f : StreamCounts → StreamCounts) : (s.modCounts e f).analysis = s.analysis := rfl
@[simp] theorem State.modCounts_channelReport (s : State) (e : Fin 64) (f : StreamCounts → StreamCounts) : (s.modCounts e f).channelReport = s.channelReport := rfl
@[simp] theorem State.modCounts_gridReport (s : State) (e : Fin 64) (f : StreamCounts → StreamCounts) : (s.modCounts e f).gridReport = s.gridReport := rfl
@[simp] theorem State.modCounts_errors (s : State) (e : Fin 64) (f : StreamCounts → StreamCounts) : (s.modCounts e f).errors = s.errors := rfl
@[simp] theorem State.modCounts_pending (s : State) (e : Fin 64) (f : StreamCounts → StreamCounts) : (s.modCounts e f).pending = s.pending := rfl

@[simp] theorem State.modErrors_resetLow (s : State) (f : ErrorRecord → ErrorRecord) : (s.modErrors f).resetLow = s.resetLow := rfl
@[simp] theorem State.modErrors_node (s : State) (f : ErrorRecord → ErrorRecord) : (s.modErrors f).node = s.node := rfl
@[simp] theorem State.modErrors_link (s : State) (f : ErrorRecord → ErrorRecord) : (s.modErrors f).link = s.link := rfl
@[simp] theorem State.modErrors_clock (s : State) (f : ErrorRecord → ErrorRecord) : (s.modErrors f).clock = s.clock := rfl
@[simp] theorem State.modErrors_minuteTaken (s : State) (f : ErrorRecord → ErrorRecord) : (s.modErrors f).minuteTaken = s.minuteTaken := rfl
@[simp] theorem State.modErrors_tables (s : State) (f : ErrorRecord → ErrorRecord) : (s.modErrors f).tables = s.tables := rfl
@[simp] theorem State.modErrors_items (s : State) (f : ErrorRecord → ErrorRecord) : (s.modErrors f).items = s.items := rfl
@[simp] theorem State.modErrors_staged (s : State) (f : ErrorRecord → ErrorRecord) : (s.modErrors f).staged = s.staged := rfl
@[simp] theorem State.modErrors_counts (s : State) (f : ErrorRecord → ErrorRecord) : (s.modErrors f).counts = s.counts := rfl
@[simp] theorem State.modErrors_turbines (s : State) (f : ErrorRecord → ErrorRecord) : (s.modErrors f).turbines = s.turbines := rfl
@[simp] theorem State.modErrors_channels (s : State) (f : ErrorRecord → ErrorRecord) : (s.modErrors f).channels = s.channels := rfl
@[simp] theorem State.modErrors_insts (s : State) (f : ErrorRecord → ErrorRecord) : (s.modErrors f).insts = s.insts := rfl
@[simp] theorem State.modErrors_ice (s : State) (f : ErrorRecord → ErrorRecord) : (s.modErrors f).ice = s.ice := rfl
@[simp] theorem State.modErrors_points (s : State) (f : ErrorRecord → ErrorRecord) : (s.modErrors f).points = s.points := rfl
@[simp] theorem State.modErrors_scheduleDay (s : State) (f : ErrorRecord → ErrorRecord) : (s.modErrors f).scheduleDay = s.scheduleDay := rfl
@[simp] theorem State.modErrors_slots (s : State) (f : ErrorRecord → ErrorRecord) : (s.modErrors f).slots = s.slots := rfl
@[simp] theorem State.modErrors_notices (s : State) (f : ErrorRecord → ErrorRecord) : (s.modErrors f).notices = s.notices := rfl
@[simp] theorem State.modErrors_mgmt (s : State) (f : ErrorRecord → ErrorRecord) : (s.modErrors f).mgmt = s.mgmt := rfl
@[simp] theorem State.modErrors_generation (s : State) (f : ErrorRecord → ErrorRecord) : (s.modErrors f).generation = s.generation := rfl
@[simp] theorem State.modErrors_landing (s : State) (f : ErrorRecord → ErrorRecord) : (s.modErrors f).landing = s.landing := rfl
@[simp] theorem State.modErrors_analysis (s : State) (f : ErrorRecord → ErrorRecord) : (s.modErrors f).analysis = s.analysis := rfl
@[simp] theorem State.modErrors_channelReport (s : State) (f : ErrorRecord → ErrorRecord) : (s.modErrors f).channelReport = s.channelReport := rfl
@[simp] theorem State.modErrors_gridReport (s : State) (f : ErrorRecord → ErrorRecord) : (s.modErrors f).gridReport = s.gridReport := rfl
@[simp] theorem State.modErrors_errors (s : State) (f : ErrorRecord → ErrorRecord) : (s.modErrors f).errors = f s.errors := rfl
@[simp] theorem State.modErrors_pending (s : State) (f : ErrorRecord → ErrorRecord) : (s.modErrors f).pending = s.pending := rfl

@[simp] theorem State.modPort_resetLow (s : State) (p : Port) (f : PortState → PortState) : (s.modPort p f).resetLow = s.resetLow := rfl
@[simp] theorem State.modPort_node (s : State) (p : Port) (f : PortState → PortState) : (s.modPort p f).node = s.node := rfl
@[simp] theorem State.modPort_link (s : State) (p : Port) (f : PortState → PortState) : (s.modPort p f).link = s.link.modPort p f := rfl
@[simp] theorem State.modPort_clock (s : State) (p : Port) (f : PortState → PortState) : (s.modPort p f).clock = s.clock := rfl
@[simp] theorem State.modPort_minuteTaken (s : State) (p : Port) (f : PortState → PortState) : (s.modPort p f).minuteTaken = s.minuteTaken := rfl
@[simp] theorem State.modPort_tables (s : State) (p : Port) (f : PortState → PortState) : (s.modPort p f).tables = s.tables := rfl
@[simp] theorem State.modPort_items (s : State) (p : Port) (f : PortState → PortState) : (s.modPort p f).items = s.items := rfl
@[simp] theorem State.modPort_staged (s : State) (p : Port) (f : PortState → PortState) : (s.modPort p f).staged = s.staged := rfl
@[simp] theorem State.modPort_counts (s : State) (p : Port) (f : PortState → PortState) : (s.modPort p f).counts = s.counts := rfl
@[simp] theorem State.modPort_turbines (s : State) (p : Port) (f : PortState → PortState) : (s.modPort p f).turbines = s.turbines := rfl
@[simp] theorem State.modPort_channels (s : State) (p : Port) (f : PortState → PortState) : (s.modPort p f).channels = s.channels := rfl
@[simp] theorem State.modPort_insts (s : State) (p : Port) (f : PortState → PortState) : (s.modPort p f).insts = s.insts := rfl
@[simp] theorem State.modPort_ice (s : State) (p : Port) (f : PortState → PortState) : (s.modPort p f).ice = s.ice := rfl
@[simp] theorem State.modPort_points (s : State) (p : Port) (f : PortState → PortState) : (s.modPort p f).points = s.points := rfl
@[simp] theorem State.modPort_scheduleDay (s : State) (p : Port) (f : PortState → PortState) : (s.modPort p f).scheduleDay = s.scheduleDay := rfl
@[simp] theorem State.modPort_slots (s : State) (p : Port) (f : PortState → PortState) : (s.modPort p f).slots = s.slots := rfl
@[simp] theorem State.modPort_notices (s : State) (p : Port) (f : PortState → PortState) : (s.modPort p f).notices = s.notices := rfl
@[simp] theorem State.modPort_mgmt (s : State) (p : Port) (f : PortState → PortState) : (s.modPort p f).mgmt = s.mgmt := rfl
@[simp] theorem State.modPort_generation (s : State) (p : Port) (f : PortState → PortState) : (s.modPort p f).generation = s.generation := rfl
@[simp] theorem State.modPort_landing (s : State) (p : Port) (f : PortState → PortState) : (s.modPort p f).landing = s.landing := rfl
@[simp] theorem State.modPort_analysis (s : State) (p : Port) (f : PortState → PortState) : (s.modPort p f).analysis = s.analysis := rfl
@[simp] theorem State.modPort_channelReport (s : State) (p : Port) (f : PortState → PortState) : (s.modPort p f).channelReport = s.channelReport := rfl
@[simp] theorem State.modPort_gridReport (s : State) (p : Port) (f : PortState → PortState) : (s.modPort p f).gridReport = s.gridReport := rfl
@[simp] theorem State.modPort_errors (s : State) (p : Port) (f : PortState → PortState) : (s.modPort p f).errors = s.errors := rfl
@[simp] theorem State.modPort_pending (s : State) (p : Port) (f : PortState → PortState) : (s.modPort p f).pending = s.pending := rfl

@[simp] theorem Link.modPort_same (l : Link) (p : Port) (f : PortState → PortState) : (l.modPort p f).port p = f (l.port p) := by
  cases p <;> rfl

theorem Link.modPort_other (l : Link) (p q : Port) (f : PortState → PortState) (h : q ≠ p) :
    (l.modPort p f).port q = l.port q := by
  cases p <;> cases q <;> first | rfl | exact absurd rfl h

/-- A property that every indexed operation keeps is kept by the operation over all indices. -/
theorem forAll_keeps {n : Nat} {f : Fin n → State → State} (P : State → Prop) (h : ∀ i s, P s → P (f i s)) (s : State)
    (hs : P s) : P (forAll n f s) := by
  unfold forAll
  generalize List.finRange n = l
  induction l generalizing s with
  | nil => exact hs
  | cons i l ih => exact ih (f i s) (h i s hs)

/-- The same for a fold over any list. -/
theorem foldl_keeps {α : Type} {f : State → α → State} (P : State → Prop) (h : ∀ s a, P s → P (f s a)) (l : List α)
    (s : State) (hs : P s) : P (l.foldl f s) := by
  induction l generalizing s with
  | nil => exact hs
  | cons a l ih => exact ih (f s a) (h s a hs)

end Sys2Proof.Machine
end

