-- ==== Sys2Proof/Laws/Arbiters.lean ====
section
/-! SUPPORT. What the egress arbiters leave alone, and a request that is taken at once. -/

namespace Sys2Proof.Machine

theorem hideTurbines_upd (v : Vector Turbine 8) (t : Fin 8) (f : Turbine → Turbine)
    (h : ∀ x, { f x with advisory := .quiet } = { x with advisory := .quiet }) :
    (tabulate 8 fun k => ({ (upd v t f)[k] with advisory := .quiet } : Turbine)) =
      tabulate 8 fun k => { v[k] with advisory := .quiet } := by
  refine Vector.ext fun i hi => ?_
  simp only [tabulate_getElem, Fin.getElem_fin, upd_getElem]
  split
  · exact h _
  · rfl

theorem State.modTurbine_hideFrames (s : State) (t : Fin 8) (f : Turbine → Turbine)
    (h : ∀ x, { f x with advisory := .quiet } = { x with advisory := .quiet }) :
    (s.modTurbine t f).hideFrames = s.hideFrames := by
  have := hideTurbines_upd s.turbines t f h
  simp only [State.hideFrames, State.modTurbine] at this ⊢
  rw [this]

theorem State.modPort_hideFrames (s : State) (p : Port) (f : PortState → PortState) (h : ∀ x, (f x).health = x.health) :
    (s.modPort p f).hideFrames = s.hideFrames := by
  cases p <;> simp [State.hideFrames, State.modPort, Link.modPort, PortState.hideFrames, h]

@[simp] theorem beginForward_hideFrames (p : Port) (n : Nat) (s : State) : (beginForward p n s).hideFrames = s.hideFrames :=
  State.modPort_hideFrames s p _ fun x => by split <;> rfl

@[simp] theorem beginOwn_hideFrames (p : Port) (s : State) : (beginOwn p s).hideFrames = s.hideFrames := by
  cases p
  · simp only [beginOwn, beginFieldOwn]
    split
    · refine (State.modPort_hideFrames _ _ _ ?_).trans (State.modTurbine_hideFrames _ _ _ ?_) <;> exact fun _ => rfl
    · rfl
  · simp only [beginOwn, beginStationOwn]
    split
    · exact State.modPort_hideFrames _ _ _ fun _ => rfl
    · split
      · exact (State.modPort_hideFrames _ _ _ (by intro; rfl)).trans rfl
      · rfl

@[simp] theorem arbiter_hideFrames (p : Port) (s : State) : (arbiter p s).hideFrames = s.hideFrames := by
  simp only [arbiter]
  split
  · rfl
  · split
    · split
      · simp
      · rw [beginOwn_hideFrames]; exact State.modPort_hideFrames _ _ _ fun _ => rfl
    · simp

/-- The arbiters change nothing but buffers, transmissions, run counts and advisory mechanisms (R187). -/
@[simp] theorem arbitrate_hideFrames (s : State) : (arbitrate s).hideFrames = s.hideFrames := by simp [arbitrate]

/-- A meaning of the common form, while the part runs. -/
theorem live_next (f : State → State) {s : State} (h : s.resetLow = false) : live f s = .next (arbitrate (f s)) := by
  simp [live, h]

/-- A meaning of the common form, while the reset input is held low. -/
theorem live_low (f : State → State) {s : State} (h : s.resetLow = true) : live f s = .next s := by
  simp [live, h]

/-- A request offered to a ready part is taken at once. -/
theorem request_ready (code : Byte) (rq : Request) {s : State} (h : s.ready) : request code rq s = takeRequest ⟨code, rq⟩ s := by
  obtain ⟨-, hn, hq, hr⟩ := h
  have e : ({ s with mgmt := { queue := [], reply := none } } : State) = s := by
    rw [← hq, ← hr]
  unfold request
  have hn : s.node ≠ Config.noNode := hn
  rw [if_neg hn]
  simp [offerRequest, takeWaiting, hq, hr, Config.requestSize]
  rw [e]

/-- What a ready part does with a request: the command's next state is that of carrying it out and holding its reply,
but for the frames the arbiters begin. -/
theorem request_live (code : Byte) (rq : Request) {s : State} (h : s.ready) :
    live (request code rq) s = .next (arbitrate (takeRequest ⟨code, rq⟩ s)) := by
  rw [live_next _ h.1, request_ready code rq h]

end Sys2Proof.Machine
end

