-- ==== Sys2Proof/Laws/Shell.lean ====
section
/-! SUPPORT. What every operation of the analysis blocks leaves alone: the shell (reset input, node, link, clock,
tables, staging, management unit, generation and the waiting commands). One lemma per operation, to be cited instead of
unfolding it. -/

namespace Sys2Proof.Machine

/-! ### The named updates -/

@[simp] theorem State.modTurbine_shell (s : State) (t : Fin 8) (f : Turbine → Turbine) : (s.modTurbine t f).shell = s.shell := rfl
@[simp] theorem State.modChannel_shell (s : State) (c : Fin 24) (f : Channel → Channel) : (s.modChannel c f).shell = s.shell := rfl
@[simp] theorem State.modInst_shell (s : State) (i : Fin 96) (f : Inst → Inst) : (s.modInst i f).shell = s.shell := rfl
@[simp] theorem State.mapInsts_shell (s : State) (f : Fin 96 → Inst → Inst) : (s.mapInsts f).shell = s.shell := rfl
@[simp] theorem State.modIce_shell (s : State) (t : Fin 8) (f : IceRecord → IceRecord) : (s.modIce t f).shell = s.shell := rfl
@[simp] theorem State.modPoint_shell (s : State) (p : Fin 2) (f : GridPoint → GridPoint) : (s.modPoint p f).shell = s.shell := rfl
@[simp] theorem State.modSlot_shell (s : State) (k : Fin 2) (f : Slot → Slot) : (s.modSlot k f).shell = s.shell := rfl
@[simp] theorem State.modItem_shell (s : State) (e : Fin 96) (f : MaintItem → MaintItem) : (s.modItem e f).shell = s.shell := rfl
@[simp] theorem State.modCounts_shell (s : State) (e : Fin 64) (f : StreamCounts → StreamCounts) : (s.modCounts e f).shell = s.shell := rfl
@[simp] theorem State.modErrors_shell (s : State) (f : ErrorRecord → ErrorRecord) : (s.modErrors f).shell = s.shell := rfl

theorem forAll_shell {n : Nat} {f : Fin n → State → State} (h : ∀ i s, (f i s).shell = s.shell) (s : State) :
    (forAll n f s).shell = s.shell :=
  forAll_keeps (fun t => t.shell = s.shell) (fun i t ht => (h i t).trans ht) s rfl

theorem foldl_shell {α : Type} {f : State → α → State} (h : ∀ s a, (f s a).shell = s.shell) (l : List α) (s : State) :
    (l.foldl f s).shell = s.shell :=
  foldl_keeps (fun t => t.shell = s.shell) (fun t a ht => (h t a).trans ht) l s rfl

/-! ### Notices, turbine contexts, maintenance -/

@[simp] theorem offer_shell (o : Offer) (s : State) : (offer o s).shell = s.shell := by
  unfold offer; split <;> rfl

@[simp] theorem linkNotice_shell (x : Subject) (a b : Nat) (s : State) : (linkNotice x a b s).shell = s.shell := offer_shell _ _
@[simp] theorem appliedNotice_shell (s : State) : (appliedNotice s).shell = s.shell := offer_shell _ _
@[simp] theorem suspendedNotice_shell (s : State) : (suspendedNotice s).shell = s.shell := offer_shell _ _

@[simp] theorem eachWindow_shell (t : Fin 8) (f : WindowContext → WindowContext) (s : State) :
    (eachWindow t f s).shell = s.shell := rfl

@[simp] theorem takeStatus_shell (t : Fin 8) (p : List Byte) (s : State) : (takeStatus t p s).shell = s.shell := rfl

@[simp] theorem freshnessExpires_shell (t : Fin 8) (s : State) : (freshnessExpires t s).shell = s.shell := by
  unfold freshnessExpires; split <;> simp

@[simp] theorem recomputeWorst_shell (t : Fin 8) (s : State) : (recomputeWorst t s).shell = s.shell := rfl

@[simp] theorem writeCurtail_shell (t : Fin 8) (v : Curtail) (s : State) : (writeCurtail t v s).shell = s.shell := by
  unfold writeCurtail; split <;> simp

@[simp] theorem resendExpires_shell (t : Fin 8) (s : State) : (resendExpires t s).shell = s.shell := by
  unfold resendExpires; split <;> (try split) <;> simp

@[simp] theorem maintNotice_shell (n : Fin 96) (a b : MaintState) (s : State) : (maintNotice n a b s).shell = s.shell :=
  offer_shell _ _

@[simp] theorem evaluate_shell (n : Fin 96) (s : State) : (evaluate n s).shell = s.shell := by
  simp only [evaluate]; split <;> simp

@[simp] theorem addUsage_shell (n : Fin 96) (w : Nat) (s : State) : (addUsage n w s).shell = s.shell := by
  simp [addUsage]

@[simp] theorem report_shell (w : MaintItem → Option Nat) (s : State) : (report w s).shell = s.shell := by
  unfold report
  refine forAll_shell (fun n s => ?_) s
  split <;> (try split) <;> simp

@[simp] theorem reportVib_shell (i : Fin 96) (c : Nat) (s : State) : (reportVib i c s).shell = s.shell := report_shell _ _
@[simp] theorem reportMinute_shell (s : State) : (reportMinute s).shell = s.shell := report_shell _ _
@[simp] theorem reportGrid_shell (p : Fin 2) (s : State) : (reportGrid p s).shell = s.shell := report_shell _ _
@[simp] theorem reportTrack_shell (t : Fin 8) (s : State) : (reportTrack t s).shell = s.shell := by
  unfold reportTrack; split <;> simp

@[simp] theorem evaluateValid_shell (s : State) : (evaluateValid s).shell = s.shell := by
  unfold evaluateValid
  refine forAll_shell (fun n s => ?_) s
  split <;> simp

@[simp] theorem dayChange_shell (s : State) : (dayChange s).shell = s.shell := by simp [dayChange]; rfl

/-- A millisecond moves the clock by R191 and nothing else of the shell. -/
@[simp] theorem passMillisecond_shell (s : State) :
    (passMillisecond s).shell = { s.shell with clock := s.clock.advance } := by
  unfold passMillisecond; split <;> simp <;> rfl
@[simp] theorem clockSet_shell (s : State) : (clockSet s).shell = s.shell := by simp [clockSet]; rfl

@[simp] theorem accessNotice_shell (t : Fin 8) (a b : Nat) (h : Bool) (s : State) : (accessNotice t a b h s).shell = s.shell :=
  offer_shell _ _
@[simp] theorem holdReported_shell (t : Fin 8) (s : State) : (holdReported t s).shell = s.shell := accessNotice_shell _ _ _ _ _

@[simp] theorem restoredReported_shell (t : Fin 8) (s : State) : (restoredReported t s).shell = s.shell := by
  unfold restoredReported
  refine (forAll_shell (fun n s => ?_) _).trans (accessNotice_shell _ _ _ _ _)
  unfold reissue; dsimp only; split <;> simp

/-! ### Captures, icing, bands -/

@[simp] theorem heldNotice_shell (k : Fin 2) (s : State) : (heldNotice k s).shell = s.shell := offer_shell _ _

@[simp] theorem captureAppend_shell (c : Fin 24) (y : Int) (s : State) : (captureAppend c y s).shell = s.shell := by
  unfold captureAppend
  refine forAll_shell (fun n s => ?_) s
  dsimp only; split <;> (try split) <;> simp

@[simp] theorem captureTruncate_shell (c : Fin 24) (s : State) : (captureTruncate c s).shell = s.shell := by
  unfold captureTruncate
  refine forAll_shell (fun n s => ?_) s
  split <;> simp

@[simp] theorem captureStart_shell (c : Fin 24) (t : Trigger) (o : Option (Fin 96)) (g : Nat) (s : State) :
    (captureStart c t o g s).shell = s.shell := rfl

@[simp] theorem missedNotice_shell (c : Fin 24) (a : Nat) (i : Fin 96) (g : Nat) (r : RefusalReason) (s : State) :
    (missedNotice c a i g r s).shell = s.shell := offer_shell _ _

@[simp] theorem captureTrigger_shell (i : Fin 96) (t : Trigger) (g : Nat) (s : State) :
    (captureTrigger i t g s).shell = s.shell := by
  unfold captureTrigger; dsimp only; split <;> (try split) <;> simp

@[simp] theorem iceNotice_shell (t : Fin 8) (o : IceState) (c : Curtail) (x : Subject) (v : NoticeValue) (g : Nat) (m : Bool)
    (s : State) : (iceNotice t o c x v g m s).shell = s.shell := offer_shell _ _

@[simp] theorem holdReports_shell (t : Fin 8) (a b : IceState) (s : State) : (holdReports t a b s).shell = s.shell := by
  unfold holdReports; split <;> (try split) <;> simp

@[simp] theorem iceEffects_shell (t : Fin 8) (i : Fin 96) (o : IceState) (v : NoticeValue) (g : Nat) (s : State) :
    (iceEffects t i o v g s).shell = s.shell := by
  simp only [iceEffects, holdReports_shell]; split <;> simp

@[simp] theorem trackWindow_shell (t : Fin 8) (b : Fin 3) (i : Fin 96) (v : Verdict) (c g : Nat) (s : State) :
    (trackWindow t b i v c g s).shell = s.shell := by
  simp only [trackWindow]; split <;> split <;> simp

@[simp] theorem handOver_shell (i : Fin 96) (t : Fin 8) (v : Verdict) (c g : Nat) (s : State) :
    (handOver i t v c g s).shell = s.shell := by
  unfold handOver; split <;> (try split) <;> simp

@[simp] theorem overrideIce_shell (t : Fin 8) (s : State) : (overrideIce t s).shell = s.shell := by
  simp only [overrideIce]; split <;> simp

@[simp] theorem resetBaselines_shell (t : Fin 8) (s : State) : (resetBaselines t s).shell = s.shell := rfl

@[simp] theorem applyIce_shell (o : IceEntry) (t : Fin 8) (s : State) : (applyIce o t s).shell = s.shell := by
  simp only [applyIce]; split <;> (try split) <;> simp

@[simp] theorem vibNotice_shell (i : Fin 96) (a b : Nat) (v : NoticeValue) (g : Nat) (s : State) :
    (vibNotice i a b v g s).shell = s.shell := offer_shell _ _

@[simp] theorem levelChange_shell (i : Fin 96) (b : BandEntry) (o n v g : Nat) (s : State) :
    (levelChange i b o n v g s).shell = s.shell := by
  simp only [levelChange, recomputeWorst_shell]; split <;> simp

@[simp] theorem persistStep_shell (i : Fin 96) (b : BandEntry) (c : Nat) (d : Bool) (v g : Nat) (s : State) :
    (persistStep i b c d v g s).shell = s.shell := by
  simp only [persistStep]; split <;> simp

@[simp] theorem resetAlarm_shell (i : Fin 96) (s : State) : (resetAlarm i s).shell = s.shell := by
  simp only [resetAlarm]; split <;> simp

@[simp] theorem closeInstance_shell (i : Fin 96) (s : State) : (closeInstance i s).shell = s.shell := by
  unfold closeInstance; split
  · dsimp only; rw [State.modInst_shell]; split
    · split <;> simp
    · simp
  · rfl

/-! ### The channel engine -/

@[simp] theorem countTaken_shell (e : Fin 64) (s : State) : (countTaken e s).shell = s.shell := rfl
@[simp] theorem countGap_shell (e : Fin 64) (s : State) : (countGap e s).shell = s.shell := rfl

@[simp] theorem landingCheck_shell (s : State) : (landingCheck s).shell = s.shell := by
  unfold landingCheck; split
  · exact (appliedNotice_shell _).trans rfl
  · rfl

@[simp] theorem suspendCheck_shell (s : State) : (suspendCheck s).shell = s.shell := by
  simp only [suspendCheck]; split
  · split
    · exact (suspendedNotice_shell _).trans rfl
    · rfl
  · rfl

@[simp] theorem adopt_shell (c : Fin 24) (s : State) : (adopt c s).shell = s.shell := by
  simp only [adopt]
  split <;> simp

@[simp] theorem adoptIfPending_shell (c : Fin 24) (s : State) : (adoptIfPending c s).shell = s.shell := by
  unfold adoptIfPending; split <;> simp

@[simp] theorem endRun_shell (c : Fin 24) (s : State) : (endRun c s).shell = s.shell := by simp [endRun]

@[simp] theorem startWindow_shell (c : Fin 24) (v : Bool) (s : State) : (startWindow c v s).shell = s.shell := rfl

@[simp] theorem settleCheck_shell (c : Fin 24) (s : State) : (settleCheck c s).shell = s.shell := by
  unfold settleCheck; split <;> simp

@[simp] theorem startRun_shell (c : Fin 24) (s : State) : (startRun c s).shell = s.shell := by simp [startRun]

@[simp] theorem leaveRun_shell (c : Fin 24) (n : RunEnd) (s : State) : (leaveRun c n s).shell = s.shell := by
  simp only [leaveRun, suspendCheck_shell]
  split
  · simp
  · split
    · simp
    · split <;> simp

@[simp] theorem bindCheck_shell (c : Fin 24) (s : State) : (bindCheck c s).shell = s.shell := by
  unfold bindCheck
  split
  · split
    · split <;> simp
    · rfl
  · simp

@[simp] theorem adoptSettling_shell (c : Fin 24) (s : State) : (adoptSettling c s).shell = s.shell := by
  simp only [adoptSettling]
  split
  · split <;> simp
  · simp

@[simp] theorem boundary_shell (c : Fin 24) (s : State) : (boundary c s).shell = s.shell := by
  simp only [boundary]
  split
  · simp
  · split <;> simp

@[simp] theorem closeWindow_shell (c : Fin 24) (s : State) : (closeWindow c s).shell = s.shell := by
  unfold closeWindow
  exact (boundary_shell _ _).trans (forAll_shell (fun p s => closeInstance_shell _ s) s)

@[simp] theorem passSample_shell (c : Fin 24) (y : Int) (f : Bool) (s : State) : (passSample c y f s).shell = s.shell := by
  simp only [passSample]
  split
  · split <;> simp
  · simp

@[simp] theorem pushInput_shell (c : Fin 24) (x : Int × Bool) (s : State) : (pushInput c x s).shell = s.shell := by
  simp only [pushInput]
  split
  · split <;> simp
  · rfl

@[simp] theorem pushInputs_shell (c : Fin 24) (xs : List (Int × Bool)) (s : State) : (pushInputs c xs s).shell = s.shell :=
  foldl_shell (fun s x => pushInput_shell c x s) xs s

@[simp] theorem takeFrame_shell (c : Fin 24) (e : Fin 64) (p : List Byte) (s : State) : (takeFrame c e p s).shell = s.shell := by
  simp only [takeFrame]; split <;> simp

@[simp] theorem gapRule_shell (c : Fin 24) (m : Nat) (s : State) : (gapRule c m s).shell = s.shell := by
  unfold gapRule; split <;> simp

@[simp] theorem expectAfter_shell (c : Fin 24) (n : Nat) (s : State) : (expectAfter c n s).shell = s.shell := by
  unfold expectAfter; split <;> simp

@[simp] theorem checkFrame_shell (c : Fin 24) (e : Fin 64) (p : List Byte) (s : State) : (checkFrame c e p s).shell = s.shell := by
  simp only [checkFrame]
  split
  · split <;> simp
  · split
    · rfl
    · split
      · split
        · simp
        · split <;> simp
      · simp

@[simp] theorem takeSample_shell (c : Fin 24) (e : Fin 64) (p : List Byte) (s : State) : (takeSample c e p s).shell = s.shell := by
  simp only [takeSample]
  split
  · rfl
  · split <;> simp
  · simp
  · split <;> simp
  · split <;> simp

@[simp] theorem channelIdleExpires_shell (c : Fin 24) (s : State) : (channelIdleExpires c s).shell = s.shell := by
  unfold channelIdleExpires
  split
  · split <;> simp
  · rfl

@[simp] theorem sourceChange_shell (o : Tables) (c : Fin 24) (s : State) : (sourceChange o c s).shell = s.shell := by
  simp only [sourceChange]
  split
  · split <;> simp
  · split <;> simp
  · rfl

@[simp] theorem takeGeneration_shell (c : Fin 24) (s : State) : (takeGeneration c s).shell = s.shell := by
  unfold takeGeneration
  split
  · simp
  · split <;> simp

@[simp] theorem suspendChannel_shell (c : Fin 24) (s : State) : (suspendChannel c s).shell = s.shell := by
  unfold suspendChannel; split <;> simp

@[simp] theorem resumeChannel_shell (c : Fin 24) (s : State) : (resumeChannel c s).shell = s.shell := by
  unfold resumeChannel
  split
  · split <;> simp
  all_goals simp

@[simp] theorem restartChannel_shell (c : Fin 24) (s : State) : (restartChannel c s).shell = s.shell := by
  simp only [restartChannel, State.modChannel_shell, adoptIfPending_shell]; split <;> simp

/-! ### The grid analyser -/

@[simp] theorem gridAlarmNotice_shell (p : Fin 2) (a b : GridAlarm) (v : NoticeValue) (g : Nat) (s : State) :
    (gridAlarmNotice p a b v g s).shell = s.shell := offer_shell _ _

@[simp] theorem syncUpdate_shell (p : Fin 2) (v : GridVerdict) (g : Nat) (s : State) : (syncUpdate p v g s).shell = s.shell := by
  simp only [syncUpdate]; split <;> simp

@[simp] theorem alarmUpdate_shell (p : Fin 2) (r : GridResult) (s : State) : (alarmUpdate p r s).shell = s.shell := by
  unfold alarmUpdate
  split
  · rfl
  · dsimp only; split <;> simp

@[simp] theorem startBlock_shell (p : Fin 2) (s : State) : (startBlock p s).shell = s.shell := rfl

@[simp] theorem discardBlock_shell (p : Fin 2) (s : State) : (discardBlock p s).shell = s.shell := by
  unfold discardBlock; split <;> simp

@[simp] theorem completeBlock_shell (p : Fin 2) (l : Latch) (s : State) : (completeBlock p l s).shell = s.shell := by
  simp only [completeBlock]; split <;> split <;> simp

@[simp] theorem pushTriple_shell (p : Fin 2) (x : Triple) (s : State) : (pushTriple p x s).shell = s.shell := by
  unfold pushTriple
  split
  · split
    · rfl
    · dsimp only; split <;> simp
  · rfl

@[simp] theorem takeTriples_shell (p : Fin 2) (e : Fin 64) (b : List Byte) (s : State) : (takeTriples p e b s).shell = s.shell := by
  unfold takeTriples
  exact (foldl_shell (fun s x => pushTriple_shell p x s) _ _).trans (by simp)

@[simp] theorem checkGrid_shell (p : Fin 2) (e : Fin 64) (b : List Byte) (s : State) : (checkGrid p e b s).shell = s.shell := by
  simp only [checkGrid]
  split
  · rfl
  · split
    · split
      · simp
      · split <;> simp
    · split <;> simp

@[simp] theorem takeGrid_shell (p : Fin 2) (e : Fin 64) (b : List Byte) (s : State) : (takeGrid p e b s).shell = s.shell := by
  simp only [takeGrid]
  split
  · rfl
  · rfl
  · split <;> simp
  · split <;> simp

@[simp] theorem gridIdleExpires_shell (p : Fin 2) (s : State) : (gridIdleExpires p s).shell = s.shell := by
  unfold gridIdleExpires; split <;> simp

@[simp] theorem applyGridEntry_shell (o : GridEntry) (p : Fin 2) (s : State) : (applyGridEntry o p s).shell = s.shell := by
  simp only [applyGridEntry]
  split
  · split <;> simp
  · split
    · simp
    · split <;> simp

@[simp] theorem applyGridBinding_shell (o : Tables) (p : Fin 2) (s : State) : (applyGridBinding o p s).shell = s.shell := by
  simp only [applyGridBinding]
  repeat' split
  all_goals first | rfl | simp

@[simp] theorem suspendPoint_shell (p : Fin 2) (s : State) : (suspendPoint p s).shell = s.shell := by
  unfold suspendPoint; split <;> simp

@[simp] theorem resumePoint_shell (p : Fin 2) (s : State) : (resumePoint p s).shell = s.shell := by
  unfold resumePoint; split <;> simp

@[simp] theorem restartPoint_shell (p : Fin 2) (s : State) : (restartPoint p s).shell = s.shell := rfl

/-! ### What follows for one field -/

theorem State.link_of_shell {s t : State} (h : t.shell = s.shell) : t.link = s.link := congrArg Shell.link h
theorem State.clock_of_shell {s t : State} (h : t.shell = s.shell) : t.clock = s.clock := congrArg Shell.clock h
theorem State.tables_of_shell {s t : State} (h : t.shell = s.shell) : t.tables = s.tables := congrArg Shell.tables h
theorem State.staged_of_shell {s t : State} (h : t.shell = s.shell) : t.staged = s.staged := congrArg Shell.staged h
theorem State.mgmt_of_shell {s t : State} (h : t.shell = s.shell) : t.mgmt = s.mgmt := congrArg Shell.mgmt h
theorem State.node_of_shell {s t : State} (h : t.shell = s.shell) : t.node = s.node := congrArg Shell.node h
theorem State.resetLow_of_shell {s t : State} (h : t.shell = s.shell) : t.resetLow = s.resetLow := congrArg Shell.resetLow h
theorem State.generation_of_shell {s t : State} (h : t.shell = s.shell) : t.generation = s.generation := congrArg Shell.generation h
theorem State.pending_of_shell {s t : State} (h : t.shell = s.shell) : t.pending = s.pending := congrArg Shell.pending h

end Sys2Proof.Machine
end

