-- ==== Sys2Proof/Tests/Slice0.lean ====
section
/-! SUPPORT. The model's own tests: ill-formed commands refused, the spec's worked values, one step of commands on small
states, and for every statement with hypotheses a state that meets them, clause by clause. -/

namespace Sys2Proof.Tests

-- one test after another: their evaluations then share one thread of memory
set_option Elab.async false

open Sys2Proof.Machine

/-! ### Helpers -/

/-- The state after a command. -/
def after (c : Instr) (s : State) : State :=
  match exec c s with
  | .next t => t
  | .fault _ | .refused _ => s

/-- The state after a step. -/
def stepped (s : State) : State :=
  match step s with
  | .next t => t
  | .fault _ | .refused _ => s

def rq (args : List Byte) : Request := { source := 40, tag := 7, args := args }

/-- The answer held after a command. -/
def answerOf (s : State) : Option Answer := s.mgmt.reply.map Reply.answer

/-- A frame with its CRC (section 11.1). -/
def frame (dest src kind tag : Nat) (p : List Byte) : List Byte :=
  let body := u8 dest ++ u8 src ++ u8 kind ++ u8 tag ++ u16 p.length ++ p
  body ++ crcBytes body

def payloadOf (bytes : List Byte) : List Byte := (bytes.drop 6).take (bytes.length - 8)

def r0 : State := State.reset

def atMs (n : Nat) (s : State) : State := { s with clock := { s.clock with counter := n } }

def clocked (sync : SyncState) (day ms : Nat) (s : State) : State :=
  { s with clock := { s.clock with sync := sync, day := day, ms := ms } }

/-- Stream Table entry 0 matches every frame and feeds `f`. -/
def feeding (f : StreamFeed) (s : State) : State :=
  { s with tables := { s.tables with streams := upd s.tables.streams 0 fun e => { e with valid := true, feed := f } } }

def sendingOn (p : Port) (x : Transmission) (s : State) : State := s.modPort p fun y => { y with sending := some x }

def notice (k priority : Nat) : Notice :=
  { offer := Offer.base .config priority 0 1 0, number := k, stamp := ⟨0, 0, .unset⟩ }

def queued (l : List Notice) (s : State) : State := { s with notices := { s.notices with queue := l, next := 60000 } }

def valid (n : Fin 96) (f : MaintItem → MaintItem) (s : State) : State :=
  s.modItem n fun e => f { e with valid := true, state := .idle }

def heldReply (code : Byte) : Reply := { request := ⟨code, rq []⟩, answer := .ok [], stamp := ⟨0, 0, .unset⟩ }

def holding (code : Byte) (s : State) : State := { s with mgmt := { s.mgmt with reply := some (heldReply code) } }

/-! ### WellFormed refuses what cannot reach the part -/

def tooLong : Request := rq (List.replicate 65533 0)

theorem test_longest_request_is_wf : (rq (List.replicate 65532 0)).wf = true := by
  simp only [Request.wf, rq, maxArgs, List.length_replicate]; decide

theorem test_too_long_request_refused : tooLong.wf = false := by
  simp only [Request.wf, tooLong, rq, maxArgs, List.length_replicate]; decide

theorem test_wf_refuses_known_code_as_unknown : (Instr.unknownRequestCode 0x14 (rq [])).wf = false := by decide +kernel

theorem test_wf_takes_unknown_code : (Instr.unknownRequestCode 0x15 (rq [])).wf = true := by decide +kernel

theorem test_wf_refuses_each_too_long_request :
    ([.unknownRequestCode 0x15, .identify, .stageEntries, .readStaged, .readCurrent, .discardStaged, .apply, .suspend,
      .resume, .readStatus, .readResults, .fetchNotices, .setDeliveryMode, .withdrawNotices, .captureChannel,
      .readCapture, .releaseCapture, .done, .defer, .iceOverride, .baselineReset, .restartFull, .restartProcessing] :
      List (Request → Instr)).all (fun c => !(c tooLong).wf) = true := by
  simp only [List.all_cons, List.all_nil, Instr.wf, test_too_long_request_refused]; decide

/-- The table gives no row bits: no word spells a command. -/
theorem test_no_word_spells_a_command : decodeTableWord 8 0 = none ∧ State.withFetchWord r0 8 0 = r0 := ⟨rfl, rfl⟩

/-! ### Values the spec works out -/

/-- Section 11.1: the CRC of the ASCII digits 1 to 9 is 29B1h. -/
theorem test_crc_check_value : crc16 [0x31, 0x32, 0x33, 0x34, 0x35, 0x36, 0x37, 0x38, 0x39] = 0x29B1#16 := by
  decide +kernel

theorem test_isqrt : isqrt 0 = 0 ∧ isqrt 15 = 3 ∧ isqrt 16 = 4 ∧ isqrt 1500000000 = 38729 := by decide +kernel

/-- R53: at a clip limit of 32767 a value of -32768 becomes -32767. -/
theorem test_clip_of_least_value : clipTo 32767 (-32768) = -32767 := by decide +kernel

/-- R50: floor((acc + 4096) / 8192) rounds a half up, and rounds toward minus infinity below it. -/
theorem test_section_rounds : let q := { Biquad.init with bypass := false, b0 := 4096 }
    (q.step SectionState.init 1).2.1 = 1 ∧ (q.step SectionState.init (-1)).2.1 = 0 ∧
    (q.step SectionState.init (-3)).2.1 = -1 := by decide +kernel

/-- R189: the counter moves by 8 and by 1, and stops at 255 and 0; NOISY begins at 64, POOR at 192. -/
theorem test_health : healthStep false 250 = 255 ∧ healthStep true 0 = 0 ∧ healthOf 63 = .clean ∧ healthOf 64 = .noisy ∧
    healthOf 191 = .noisy ∧ healthOf 192 = .poor := by decide +kernel

/-- R92: the correction truncates toward zero. -/
theorem test_baseline_correction : corrected 1600 100 = 1600 ∧ corrected 1600 101 = 1601 ∧ corrected 1600 99 = 1599 ∧
    corrected 1601 100 = 1601 := by decide +kernel

/-! ### Commands, one step each -/

theorem test_power_on_samples_straps : (after (.powerOn 5) (clocked .locked 9 9 r0)).node = 5 ∧
    (after (.powerOn 5) (clocked .locked 9 9 r0)).clock.sync = .unset := by decide +kernel

theorem test_reset_low_cuts :
    (after .resetInputHeldLow (sendingOn .field (.forwarded [1]) r0)).link.field.sending = none := by decide +kernel

theorem test_nothing_acts_while_low :
    (after (.frameReception .field [1]) (after .resetInputHeldLow r0)).link.field.health = 0 := by decide +kernel

theorem test_bad_frame_moves_health : (after (.frameReception .field [1, 2]) r0).link.field.health = 8 := by
  decide +kernel

theorem test_good_frame_forwarded : (after (.frameReception .field (frame 1 5 0x7F 0 [9])) r0).link.station.sending =
    some (.forwarded (frame 1 5 0x7F 0 [9])) := by decide +kernel

theorem test_forwarded_completion :
    (after (.forwardedFrameCompletion .field) (sendingOn .field (.forwarded [1]) r0)).link.field.sending = none := by
  decide +kernel

theorem test_notice_completion :
    let s := sendingOn .station (.notice [1]) (queued [notice 4 3, notice 5 3] r0)
    (after .noticeFrameCompletion { s with notices := { s.notices with sending := some 4 } }).notices.queue.map
      Notice.number = [5] := by decide +kernel

theorem test_advisory_completion_out_of_service :
    (after .advisoryFrameCompletion (sendingOn .field (.advisory 2 [1])
      (r0.modTurbine 2 fun x => { x with advisory := .sending .stop }))).turbines[2].advisory = .quiet := by
  decide +kernel

theorem test_reply_completion :
    (after .mgmtReplyCompletion (sendingOn .station (.reply [1]) (holding 0x01 r0))).mgmt.reply = none := by
  decide +kernel

theorem test_freshness_timeout :
    (after (.freshnessTimeout 3) (r0.modTurbine 3 fun x => { x with freshness := .fresh })).turbines[3].freshness =
      .stale := by decide +kernel

theorem test_resend_timer :
    (after (.resendTimerExpiry 1) (r0.modTurbine 1 fun x =>
      { x with advisory := .holding 0, curtail := .reduce })).turbines[1].advisory = .sending .reduce := by
  decide +kernel

theorem test_channel_idle_timer :
    (after (.channelIdleTimerExpiry 23) (atMs 2000 (r0.modChannel 23 fun x =>
      { x with state := .suspended, idleExpiry := some 2000 }))).channels[23].streamIdle = true := by decide +kernel

theorem test_grid_idle_timer :
    (after (.gridIdleTimerExpiry 1) (atMs 2000 (r0.modPoint 1 fun x =>
      { x with intake := .assembling, index := 32, idleExpiry := some 2000 }))).points[1].intake = .idle := by
  decide +kernel

theorem test_holdover_timer :
    let s := atMs 3000 (clocked .locked 4 5 r0)
    (after .holdoverTimerExpiry { s with clock := { s.clock with holdoverExpiry := some 3000 } }).clock.sync =
      .holdover := by decide +kernel

def usageState (n : Nat) : State :=
  atMs n (valid 0 (fun e => { e with source := .run 9 })
    (r0.modTurbine 0 fun x =>
      { x with freshness := .fresh, freshExpiry := 90000, status := { x.status with op := .producing } }))

theorem test_minute_event : (after .minuteEvent (usageState 60000)).items[0].usage = 9 := by decide +kernel

/-- R194: each multiple of 60,000 gives one minute event: the step that reaches it has taken it. -/
theorem test_minute_counts_once : (stepped (usageState 59999)).items[0].usage = 9 ∧
    (after .minuteEvent (stepped (usageState 59999))).items[0].usage = 9 := by decide +kernel

theorem test_day_wraps : let t := after .msOfDayWrap (clocked .locked 65535 86399999 r0)
    t.clock.day = 0 ∧ t.clock.ms = 0 ∧ t.clock.counter = 1 := by decide +kernel

/-- R194: the minute event of the multiple that the wrap reaches is taken before the next millisecond. -/
theorem test_minute_behind_the_wrap :
    let t := stepped (after .msOfDayWrap (clocked .locked 7 86399999 (usageState 59999)))
    t.items[0].usage = 9 ∧ t.minuteTaken = 60000 ∧ t.clock.counter = 60001 := by decide +kernel

/-- The step of an empty queue: 23:59:59.999 of a LOCKED day is followed by the next day. -/
theorem test_idle_step_wraps_the_day :
    let t := stepped (clocked .locked 7 86399999 r0)
    t.clock.day = 8 ∧ t.clock.ms = 0 ∧ t.clock.counter = 1 := by decide +kernel

theorem test_unknown_code : answerOf (after (.unknownRequestCode 0x15 (rq [])) r0) = some (.plain .malformed) := by
  decide +kernel

/-- R205: family 2E71h, part number 2408, revision 1, node number, generation. -/
theorem test_identify : answerOf (after (.identify (rq [])) (after (.powerOn 5) r0)) =
    some (.ok [0x2E, 0x71, 0x09, 0x68, 1, 5, 0, 0]) := by decide +kernel

/-- R200: a value above its range is adjusted and the reply says so: here a grace of 400 days. -/
theorem test_stage_adjusts : answerOf (after (.stageEntries (rq [8, 1, 0, 0, 63, 0, 0, 0x01, 0x90])) r0) =
    some { status := .okAdjusted, reason := none, results := [] } := by decide +kernel

theorem test_read_staged_after_stage :
    answerOf (after (.readStaged (rq [8, 0, 1])) { after (.stageEntries (rq [8, 1, 0, 0, 63, 0, 0, 0x01, 0x90])) r0 with
      mgmt := Mgmt.init }) = some (.ok [0, 63, 0, 0, 0x01, 0x6D]) := by decide +kernel

theorem test_read_current : answerOf (after (.readCurrent (rq [9, 0, 1])) r0) = some (.plain .badTable) := by
  decide +kernel

theorem test_discard_staged :
    (after (.discardStaged (rq [])) { r0 with staged := { r0.staged with marks := Vector.replicate 96 true } }
      ).staged.marks[95] = false := by decide +kernel

/-- R203: the reply of an Apply carries the new generation and that the landing has ended. -/
theorem test_apply : answerOf (after (.apply (rq [])) r0) = some (.ok [0, 1, 1]) := by decide +kernel

theorem test_apply_busy : answerOf (after (.apply (rq [])) { r0 with landing := true }) = some (.plain .busy) := by
  decide +kernel

theorem test_suspend : answerOf (after (.suspend (rq [])) r0) = some (.ok [2]) := by decide +kernel

theorem test_resume : (after (.resume (rq [])) { r0 with analysis := .suspended }).analysis = .active := by
  decide +kernel

theorem test_read_status_clears_flags :
    (after (.readStatus (rq [])) { r0 with errors := { r0.errors with noSuchTable := true } }).errors.noSuchTable =
      false := by decide +kernel

theorem test_read_results_bad_index : answerOf (after (.readResults (rq [2, 1, 2])) r0) = some (.plain .badIndex) := by
  decide +kernel

theorem test_fetch : (after (.fetchNotices (rq [1])) (queued [notice 4 3, notice 5 3]
    { r0 with tables := r0.tables.withMode .hold })).notices.queue.map Notice.number = [5] := by decide +kernel

theorem test_set_delivery_mode : (after (.setDeliveryMode (rq [1])) r0).staged.tables.global.mode = .hold := by
  decide +kernel

theorem test_withdraw : answerOf (after (.withdrawNotices (rq [255])) (queued [notice 4 3, notice 5 3] r0)) =
    some (.ok [2]) := by decide +kernel

theorem test_capture : answerOf (after (.captureChannel (rq [23])) (r0.modChannel 23 fun x => { x with state := .running })) =
    some (.ok [0]) := by decide +kernel

theorem test_read_capture_empty : answerOf (after (.readCapture (rq [1, 0])) r0) = some (.refused .empty) := by
  decide +kernel

theorem test_release : (after (.releaseCapture (rq [1])) (r0.modSlot 1 fun x => { x with state := .held })).slots[1].state =
    .free := by decide +kernel

theorem test_done : (after (.done (rq [95])) (valid 95 (fun e => { e with interval := 30, usage := 4 })
    { r0 with scheduleDay := some 65530 })).items[95].dueDay = 65535 := by decide +kernel

/-- R152: a deferral of 100 days is taken as 90, and the reply says so. -/
theorem test_defer : answerOf (after (.defer (rq [0, 0, 100])) (valid 0 id { r0 with scheduleDay := some 0 })) =
    some { status := .okAdjusted, reason := none, results := [] } := by decide +kernel

theorem test_ice_override :
    (after (.iceOverride (rq [7])) (r0.modIce 7 fun x => { x with state := .iced })).ice[7].state = .clear := by
  decide +kernel

theorem test_baseline_reset :
    (after (.baselineReset (rq [7])) (r0.modIce 7 fun x =>
      { x with blades := Vector.replicate 3 ⟨1600, .valid, some 100⟩ })).ice[7].blades[2] = ⟨0, .none, some 100⟩ := by
  decide +kernel

theorem test_restart_full_waits_for_its_reply :
    (after (.restartFull (rq [])) { r0 with generation := 3 }).generation = 3 := by decide +kernel

theorem test_restart_processing :
    answerOf (after (.restartProcessing (rq [])) { r0 with generation := 258 }) = some (.ok [1, 2]) := by decide +kernel

/-! ### Every statement with hypotheses has a state that meets them -/

abbrev Ticks (s : State) : Prop :=
  s.pending = [] ∧ s.resetLow = false ∧ s.clock.counter < 2 ^ 48 - 1 ∧ s.clock.ms < 86400000

theorem test_meets_IdleStepPassesAMillisecond :
    (Ticks (atMs (2 ^ 48 - 2) r0) ∧ r0.clock.sync = .unset) ∧
    (Ticks (clocked .locked 65535 86399998 r0) ∧ (clocked .locked 65535 86399998 r0).clock.sync ≠ .unset) ∧
    (Ticks (clocked .holdover 65535 86399999 r0) ∧ (clocked .holdover 65535 86399999 r0).clock.sync ≠ .unset) := by
  decide +kernel

theorem test_meets_ResetInputHeldLow :
    (after .resetInputHeldLow r0).resetLow = true ∧ (∀ straps, Instr.minuteEvent ≠ .powerOn straps) ∧
    Instr.minuteEvent ≠ .resetInputHeldLow := ⟨by decide +kernel, fun _ => by simp, by decide⟩

/-- Seven bytes; a length that differs by one; a CRC with one bit changed; health counters that stay CLEAN or become
NOISY; ports that transmit, and one free with a frame buffered. -/
theorem test_meets_BadFrameReachesHealthOnly : r0.resetLow = false ∧
    [0, 0, 1, 0, 0, 0, 0].length < 8 ∧
    (frame 1 5 1 0 [9] ++ [0]).length ≠ 8 + at16 (frame 1 5 1 0 [9] ++ [0]) 4 ∧
    (let bytes := upd (Vector.mk (n := 8) ⟨frame 1 5 1 0 []⟩ (by decide +kernel)) 7 fun b => b ^^^ 1
     bytes.toList.drop (bytes.toList.length - 2) ≠ crcBytes (bytes.toList.take (bytes.toList.length - 2))) ∧
    (∀ p : Port, (r0.link.port p).sending = none ∧ healthOf (min 255 ((r0.link.port p).health + 8)) = .clean ∧
      ((sendingOn p (.forwarded [1]) r0).link.port p).sending.isSome = true ∧
      healthOf ((r0.modPort p fun x => { x with health := 56 }).link.port p).health ≠
        healthOf (min 255 (((r0.modPort p fun x => { x with health := 56 }).link.port p).health + 8))) ∧
    ((r0.modPort .field fun x => { x with buffer := [[2]] }).link.port .field).sending = none := by
  refine ⟨rfl, by decide, by decide +kernel, by decide +kernel, fun p => ?_, rfl⟩
  cases p <;> decide +kernel

/-- A port that transmits with this many frames buffered. -/
def loaded (n : Nat) : State :=
  r0.modPort .station fun x => { x with buffer := List.replicate n [1], sending := some (.forwarded [1]) }

theorem test_meets_UnknownKindOnlyForwarded : r0.resetLow = false ∧ Port.station = otherPort .field ∧
    frameGood (frame 1 5 0x32 0 []) = true ∧
    at8 (frame 1 5 0x32 0 []) 2 ∉ [0x01, 0x02, 0x03, 0x10, 0x20, 0x21, 0x30, 0x31] ∧
    (r0.link.port .field).health ≤ 63 ∧ (r0.link.port .station).sending = none ∧
    (r0.link.port .station).buffer = [] ∧ r0.ownWaiting .station = false ∧
    ((loaded 15).link.port .station).sending.isSome = true ∧ ((loaded 15).link.port .station).buffer.length < 16 ∧
    ((loaded 16).link.port .station).sending.isSome = true ∧ 16 ≤ ((loaded 16).link.port .station).buffer.length := by
  decide +kernel

/-- R186: the seventeenth frame behind a port that transmits is dropped. -/
theorem test_forward_overflow :
    (forward .station [7] (loaded 16)).errors.forwardOverflow = true ∧
    (forward .station [7] (loaded 15)).errors.forwardOverflow = false := by decide +kernel

def timeFrame : List Byte := frame 63 40 0x10 0 (u16 65535 ++ u32 86399999)

theorem test_meets_TimeFrameSetsClock : r0.resetLow = false ∧ frameGood timeFrame = true ∧ at8 timeFrame 2 = 0x10 ∧
    payloadOf timeFrame = u16 65535 ++ u32 86399999 ∧ (payloadOf timeFrame).length = 6 ∧
    at32 (payloadOf timeFrame) 2 < 86400000 ∧ r0.clock.sync = .unset ∧
    (clocked .locked 65534 0 r0).clock.day < at16 (payloadOf timeFrame) 0 ∧
    ¬ (clocked .locked 65535 0 r0).clock.day < at16 (payloadOf timeFrame) 0 := by decide +kernel

def statusFrame : List Byte := frame 1 5 0x03 255 [2, 0x0B, 0xB9, 0x75, 0x30, 0xFE, 0x0C, 101, 0x4E, 0x20]

def statusState : State :=
  let s := feeding (.turbineStatus 7) r0
  { s with tables := { s.tables with turbines := upd s.tables.turbines 7 fun e => { e with valid := true } } }

theorem test_meets_StatusFrameRefreshesTurbine : statusState.resetLow = false ∧ frameGood statusFrame = true ∧
    at8 statusFrame 2 = 0x03 ∧ (payloadOf statusFrame).length = 10 ∧
    statusState.tables.classify (BitVec.ofNat 6 (at8 statusFrame 1)) (BitVec.ofNat 8 (at8 statusFrame 3)) = some 0 ∧
    statusState.tables.streams[(0 : Fin 64)].feed = .turbineStatus 7 ∧
    statusState.tables.turbines[(7 : Fin 8)].valid = true := by decide +kernel

/-- R213, R4: rotor speed 3001 and humidity 101 are stored as 3000 and 100; FE0Ch is the temperature -50.0 C. -/
theorem test_status_is_clamped : statusOf (payloadOf statusFrame) =
    { op := .producing, rotor := 3000, shaft := 30000, ambient := -500, humidity := 100, power := 20000 } := by
  decide +kernel

/-- A frame whose sequence number lies 128 ahead of the expected 129. -/
def lateFrame : List Byte := frame 1 5 0x01 0 [1, 0]

def lateState (st : ChannelState) : State :=
  (feeding (.vibChannel 23) r0).modChannel 23 fun x => { x with state := st, expect := some 129 }

abbrev MeetsLate (s : State) : Prop := s.resetLow = false ∧ frameGood lateFrame = true ∧ at8 lateFrame 2 = 0x01 ∧
    2 ≤ (payloadOf lateFrame).length ∧
    s.tables.classify (BitVec.ofNat 6 (at8 lateFrame 1)) (BitVec.ofNat 8 (at8 lateFrame 3)) = some 0 ∧
    s.tables.streams[(0 : Fin 64)].feed = .vibChannel 23 ∧
    (s.channels[(23 : Fin 24)].state = .settling ∨ s.channels[(23 : Fin 24)].state = .running) ∧
    s.channels[(23 : Fin 24)].expect = some 129#8 ∧
    128 ≤ (at8 (payloadOf lateFrame) 0 + 256 - (129#8).toNat) % 256

theorem test_meets_LateSampleFrameIgnored : MeetsLate (lateState .settling) ∧ MeetsLate (lateState .running) := by
  decide +kernel

/-- One SAMPLE frame of one sample, its sequence number `n`. -/
def oneSample (n : Nat) : List Byte := frame 1 5 0x01 0 (u8 n ++ u8 1 ++ i16 (-7))

/-- Channel 23 bound and fed by entry 0, in this state and progress, expecting 0, its settle count 64. -/
def sampled (st : ChannelState) (progress tolerance : Nat) : State :=
  (feeding (.vibChannel 23) r0).modChannel 23 fun x => { x with
    state := st, settleProgress := progress, windowProgress := progress, expect := some 0, lastInput := some 3
    config := { entry := { x.config.entry with settle := 64, gapTolerance := tolerance }
                bands := upd x.config.bands 3 fun _ => some BandEntry.init } }

abbrev MeetsSample (n d : Nat) (s : State) : Prop :=
  s.hands 0x01 (oneSample n) (payloadOf (oneSample n)) 0 (.vibChannel 23) ∧
    s.channels[(23 : Fin 24)].config.entry.frameSamples = 1 ∧
    (payloadOf (oneSample n)).length = 2 + 2 * 1 ∧ at8 (payloadOf (oneSample n)) 1 = 1 ∧
    s.channels[(23 : Fin 24)].ring.length ≤ 2048 ∧
    d = s.channels[(23 : Fin 24)].expect.elim 0 fun y => (at8 (payloadOf (oneSample n)) 0 + 256 - y.toNat) % 256

/-- The decimated samples of that frame behind `m` filled ones, without decimation. -/
abbrev OneMore (m : Nat) : Prop :=
  (decimated .d1 [] (List.replicate m (3, true) ++ [(-7, false)])).1.length = m + 1

/-- The last sample of a window of this context is due at instance 95, bound to this band. -/
def closing (b : BandEntry) (w : WindowContext) : State :=
  let s := (sampled .running 255 0).modChannel 23 fun x =>
    { x with config := { x.config with bands := upd x.config.bands 3 fun _ => some b } }
  s.modInst 95 fun x => { x with window := some w }

/-- A band of this role, ice-relaxed where the flag says so. -/
def banded (r : BandRole) (relaxed : Bool) : BandEntry := { BandEntry.init with role := r, iceRelaxed := relaxed }

/-- The closing clauses: every verdict's window (the speed gate is 0..30000), both roles, and a close with no TRACK
instance ahead of it, whose window is CLASSED. -/
theorem test_meets_window_close :
    (∀ v f p : Bool, (closing (banded .track false) ⟨f, p, some (0, 30000), 0, v⟩).insts[(95 : Fin 96)].window =
      some ⟨f, p, some (0, 30000), 0, v⟩) ∧
    (closing (banded .track false) ⟨true, true, some (0, 30001), 0, false⟩).bandOf 95 = some (banded .track false) ∧
    let s := closing (banded .measure true) ⟨true, true, some (0, 30000), 0, false⟩
    MeetsSample 0 0 s ∧ s.bandOf 95 = some (banded .measure true) ∧
      (∀ j : Fin 96, instChannel j = 23 → j < 95 → s.bandOf j = none) ∧
      ((takeSample 23 0 (payloadOf (oneSample 0)) s).insts[(95 : Fin 96)].lastResult.map InstResult.verdict) =
        some .classed := by decide +kernel

theorem test_meets_SampleFrameTaken :
    (MeetsSample 0 0 (sampled .settling 62 0) ∧ 62 + 1 < 64) ∧ (MeetsSample 0 0 (sampled .settling 63 0) ∧ 63 + 1 = 64) ∧
    (MeetsSample 127 127 (sampled .running 127 127) ∧ 127 * 1 ≤ 127 ∧ OneMore 127 ∧ 127 + 128 < 256) ∧
    (MeetsSample 0 0 (sampled .running 255 0) ∧ OneMore 0 ∧ 255 + 1 = 256 ∧ (sampled .running 255 0).channelBound 23 = true ∧
      (sampled .running 255 0).channels[(23 : Fin 24)].marked = false ∧
      (sampled .running 255 0).channels[(23 : Fin 24)].gen = (sampled .running 255 0).generation ∧
      (sampled .running 255 0).channels[(23 : Fin 24)].config.entry.window = 256) ∧
    (sampled .running 255 0).bandOf 95 = some BandEntry.init := by decide +kernel

/-- R37: the 256th decimated sample of a window closes it; R36: the 64th of the settling starts one. -/
theorem test_sample_closes_and_starts :
    (takeSample 23 0 (payloadOf (oneSample 0)) (sampled .running 255 0)).channels[23].windowProgress = 0 ∧
    (takeSample 23 0 (payloadOf (oneSample 0)) (sampled .settling 63 0)).channels[23].state = .running := by
  decide +kernel

theorem test_meets_SampleFrameStartsRun :
    (MeetsSample 9 9 (sampled .idle 0 0) ∧ OneMore 0 ∧ 1 < 64) ∧
    (MeetsSample 127 127 (sampled .running 9 126) ∧ 126 < 127 * 1 ∧ (sampled .running 9 126).channelBound 23 = true) ∧
    (MeetsSample 1 1 (sampled .settling 9 0) ∧ 0 < 1 * 1 ∧ (sampled .settling 9 0).channels[(23 : Fin 24)].marked = false ∧
      (sampled .settling 9 0).channels[(23 : Fin 24)].gen = (sampled .settling 9 0).generation) := by decide +kernel

/-- A GRID frame of one triple, its sequence number `n`. -/
def oneTriple (n : Nat) : List Byte := frame 1 5 0x02 0 (u8 n ++ u8 1 ++ i16 5 ++ i16 0 ++ i16 (-5))

/-- A GRID frame whose count says 0 triples. -/
def noTriple (n : Nat) : List Byte := frame 1 5 0x02 0 (u8 n ++ u8 0)

def latchOf : Latch := ⟨1, .abc, 0, 0, Vector.replicate 30 0, 0⟩

/-- Point 1 fed by entry 0, at this index, expecting 0. -/
def gridded (st : Intake) (index : Nat) (marked : Bool) : State :=
  (feeding (.gridPoint 1) r0).modPoint 1 fun x =>
    { x with intake := st, index := index, marked := marked, expect := some 0, latch := some latchOf }

abbrev MeetsGrid (bytes : List Byte) (n d : Nat) (good : Bool) (s : State) : Prop :=
  s.hands 0x02 bytes (payloadOf bytes) 0 (.gridPoint 1) ∧ n = at8 (payloadOf bytes) 1 ∧
    (good = true ↔ 1 ≤ n ∧ n ≤ 32 ∧ (payloadOf bytes).length = 2 + 6 * n) ∧
    s.points[(1 : Fin 2)].expect = some 0 ∧ d = (at8 (payloadOf bytes) 0 + 256 - (0#8).toNat) % 256

theorem test_meets_GridFrameAtPoint :
    (MeetsGrid (oneTriple 0) 1 0 true (gridded .unbound 0 false) ∧
      MeetsGrid (oneTriple 0) 1 0 true (gridded .suspended 0 false)) ∧
    (MeetsGrid (oneTriple 9) 1 9 true (gridded .idle 0 false) ∧ MeetsGrid (noTriple 9) 0 9 false (gridded .idle 0 false)) ∧
    (MeetsGrid (oneTriple 128) 1 128 true (gridded .assembling 7 false) ∧
      MeetsGrid (noTriple 255) 0 255 false (gridded .assembling 7 false) ∧ (payloadOf (frame 1 5 0x02 0 [3])).length < 2) ∧
    (MeetsGrid (oneTriple 0) 1 0 true (gridded .assembling 638 true) ∧ 638 + 1 < 640 ∧
      MeetsGrid (oneTriple 0) 1 0 true (gridded .assembling 639 false) ∧ 639 + 1 = 640) ∧
    (MeetsGrid (oneTriple 127) 1 127 true (gridded .assembling 7 false) ∧
      MeetsGrid (oneTriple 1) 1 1 true (gridded .assembling 0 true)) ∧
    (MeetsGrid (noTriple 0) 0 0 false (gridded .assembling 7 false) ∧
      MeetsGrid (noTriple 127) 0 127 false (gridded .assembling 7 true) ∧
      2 ≤ (payloadOf (noTriple 0)).length) := by
  repeat' apply And.intro
  all_goals decide +kernel

/-- R110: the triple at index 639 completes the block, and the next one starts; R109: a missing frame discards it. -/
theorem test_grid_frame_completes_or_discards :
    (takeGrid 1 0 (payloadOf (oneTriple 0)) (gridded .assembling 639 false)).points[1].index = 0 ∧
    (takeGrid 1 0 (payloadOf (oneTriple 1)) (gridded .assembling 639 false)).points[1].index = 1 ∧
    (takeGrid 1 0 (payloadOf (oneTriple 1)) (gridded .assembling 639 false)).counts[0].gapEvents = 1 := by
  decide +kernel

def requestFrame : List Byte := frame 0 40 0x30 0 [0x01, 0, 7]

def waiting (n : Nat) (s : State) : State :=
  { s with mgmt := { s.mgmt with queue := List.replicate n ⟨0x30, rq []⟩ } }

abbrev MeetsQueued (s : State) : Prop := s.resetLow = false ∧ frameGood requestFrame = true ∧
    at8 requestFrame 2 = 0x30 ∧ BitVec.ofNat 6 (at8 requestFrame 0) = s.node ∧ s.node ≠ 63#6 ∧
    (requestFrame.drop 6).take (requestFrame.length - 8) = (0x01 : Byte) :: 0 :: 7 :: [] ∧
    s.mgmt.reply = some (heldReply 0x01)

theorem test_meets_RequestFrameIsQueued :
    (MeetsQueued (waiting 3 (holding 0x01 r0)) ∧ (waiting 3 (holding 0x01 r0)).mgmt.queue.length < 4) ∧
    (MeetsQueued (waiting 4 (holding 0x01 r0)) ∧ 4 ≤ (waiting 4 (holding 0x01 r0)).mgmt.queue.length) := by
  decide +kernel

def band (clip : Nat) : BandEntry := { BandEntry.init with clip := clip }

/-- All sections bypassed, the cascade's output is its input: above, below and at the limit, and at -32768. -/
theorem test_meets_ClipLimitsCascadeOutput : 1 ≤ (band 1).clip ∧ (band 32767).clip ≤ 32767 ∧
    (cascade (band 1).sections Inst.init.filter 2).2 = (2, false) ∧ ((band 1).clip : Int) < 2 ∧
    (cascade (band 1).sections Inst.init.filter (-2)).2 = (-2, false) ∧ -2 < -((band 1).clip : Int) ∧
    (cascade (band 1).sections Inst.init.filter (-1)).2 = (-1, false) ∧ -((band 1).clip : Int) ≤ -1 ∧
    (cascade (band 32767).sections Inst.init.filter (-32768)).2 = (-32768, false) ∧ Inst.init.satCount < 16384 := by
  decide +kernel

theorem test_meets_SumOfSquaresFits48Bits :
    (band 32767).clip ≤ 32767 ∧ [32767, -32768].length ≤ 16384 ∧ Inst.init.sumSq = 0 := by decide +kernel

theorem test_meets_AlarmRunsMoveLevel : ([3, 2, 3] : List Nat).length = 3 ∧ 1 ≤ 15 ∧ (∀ d ∈ [3, 2, 3], 1 < d) ∧ 2 < 3 ∧
    ([(0, true), (1, false)] : List (Nat × Bool)).length = 2 ∧ (∀ d ∈ [(0, true), (1, false)], d.1 < 2) ∧ 1 < 2 ∧
    ((⟨1, 0, none, 0, none⟩ : AlarmRecord).level < 2 ∧ 1 = (⟨1, 0, none, 0, none⟩ : AlarmRecord).level ∧
      0 ≤ (⟨1, 0, none, 0, none⟩ : AlarmRecord).level) := by decide +kernel

def iceEntry : IceEntry := { IceEntry.init with niced := 3, nthaw := 2, nclear := 2 }

def iceAt (st : IceState) (ev thaw : Nat) : IceRecord := { IceRecord.init with state := st, evidence := ev, thaw := thaw }

/-- Conditions of a fresh track window. -/
def cond (evaluable evidence warm : Bool) : TrackConditions :=
  { fresh := true, gate := true, evaluable := evaluable, evidence := evidence, warm := warm, learnWarm := false }

abbrev MeetsSuspect (ev : Nat) (k : TrackConditions) : Prop := (iceAt .suspect ev 0).state = .suspect ∧ k.fresh = true ∧
    (iceAt .suspect ev 0).evidence < iceEntry.niced ∧ (k.evidence = true → k.evaluable = true)

theorem test_meets_SuspectStep :
    (MeetsSuspect 2 (cond true true false) ∧ 2 + 1 = iceEntry.niced) ∧
    (MeetsSuspect 1 (cond true true false) ∧ 1 + 1 < iceEntry.niced) ∧
    (MeetsSuspect 1 (cond true false false) ∧ (iceAt .suspect 1 0).evidence = 1) ∧
    (MeetsSuspect 2 (cond true false false) ∧ 1 < (iceAt .suspect 2 0).evidence) ∧
    MeetsSuspect 1 (cond false false false) := by decide +kernel

theorem test_meets_IcedStep : (iceAt .iced 3 0).state = .iced ∧ (cond true true true).fresh = true ∧
    (iceAt .iced 3 0).evidence = iceEntry.niced ∧ (iceAt .iced 3 0).thaw + 1 < iceEntry.nthaw ∧
    iceEntry.nthaw ≤ (iceAt .iced 3 1).thaw + 1 ∧ (cond true true false).warm = false := by decide +kernel

/-- Conditions of a fresh track window without warmth: its weather gate, whether it is evaluable, and evidence. -/
def weather (gate evaluable evidence : Bool) : TrackConditions :=
  { fresh := true, gate := gate, evaluable := evaluable, evidence := evidence, warm := false, learnWarm := false }

/-- Nsuspect 2, Niced 3, Nclear 2: evidence counts below and at the limits, clear counts likewise. -/
theorem test_meets_WeatherAndThawSteps : let e := { iceEntry with nsuspect := 2 }
    (∀ g a v : Bool, (v = true → a = true) → (weather g a v).fresh = true ∧
      ((weather g a v).evidence = true → (weather g a v).evaluable = true)) ∧
    ({ weather false false false with fresh := false } : TrackConditions).fresh = false ∧
    (iceAt .watch 0 0).evidence + 1 < e.nsuspect ∧ (iceAt .watch 1 0).evidence + 1 = e.nsuspect ∧ e.niced ≠ e.nsuspect ∧
    { e with niced := 2 }.niced = { e with niced := 2 }.nsuspect ∧ (iceAt .thawing 3 0).clear + 1 < e.nclear ∧
    e.nclear ≤ ({ iceAt .thawing 3 0 with clear := 1 } : IceRecord).clear + 1 := by decide +kernel

/-- R88: NO_DATA moves to WATCH in one window of icing weather (R87), and the second evidence window of WATCH to
SUSPECT. -/
theorem test_weather_steps : let e := { iceEntry with nsuspect := 2 }
    (iceStep e (weather true true false) (iceAt .noData 0 0)).state = .watch ∧
    (iceStep e (weather true true true) (iceAt .watch 1 0)).state = .suspect := by decide +kernel

/-- Turbine 7 in CLEAR, FRESH, its first blade 5 windows into learning. -/
def learner : State :=
  (r0.modTurbine 7 fun x => { x with freshness := .fresh }).modIce 7 fun x =>
    { x with state := .clear, blades := upd x.blades 0 fun _ => ⟨1600, .learning 5, none⟩ }

theorem test_meets_TrackWindowLearnsBaseline :
    let k := trackConditions learner.tables.ice[(7 : Fin 8)] learner.turbines[(7 : Fin 8)]
      learner.ice[(7 : Fin 8)].blades[(0 : Fin 3)] .classed 100
    (iceStep learner.tables.ice[(7 : Fin 8)] k learner.ice[(7 : Fin 8)]).state = .clear ∧ k.evaluable = true ∧
    learner.tables.ice[(7 : Fin 8)].tlearn ≤ learner.turbines[(7 : Fin 8)].status.ambient ∧
    (trackConditions learner.tables.ice[(7 : Fin 8)] learner.turbines[(7 : Fin 8)]
      learner.ice[(7 : Fin 8)].blades[(0 : Fin 3)] .void 100).evaluable = false ∧
    learner.ice[(7 : Fin 8)].blades[(0 : Fin 3)].status = .learning 5 := by decide +kernel

/-- R92: the 32nd learning window makes a baseline VALID. -/
theorem test_learning_ends : ((⟨1600, .learning 30, none⟩ : Blade).learn 100).status = .learning 31 ∧
    ((⟨1600, .learning 31, none⟩ : Blade).learn 99) = ⟨1599, .valid, none⟩ := by decide +kernel

/-- Nine crossings 62 and 66 apart; eight; nine of which two lie 61 apart, or 67. -/
theorem test_meets_OffSyncTest : ([0, 62, 128, 192, 256, 320, 384, 448, 512] : List Nat).Pairwise (· < ·) ∧
    ([0, 64, 128, 192, 256, 320, 384, 448] : List Nat).Pairwise (· < ·) ∧
    ([0, 61, 128, 192, 256, 320, 384, 448, 512] : List Nat).Pairwise (· < ·) ∧
    ([0, 67, 128, 192, 256, 320, 384, 448, 512] : List Nat).Pairwise (· < ·) := by decide +kernel

/-- Point 1 with P and Q both 2, its alarm state and counts as given. -/
def alarmed (a : GridAlarm) (raise clear : Nat) : State :=
  let s := r0.modPoint 1 fun x => { x with alarm := a, raiseCount := raise, clearCount := clear }
  { s with tables := { s.tables with
      grid := upd s.tables.grid 1 fun g => { g with valid := true, persistence := 2, clear := 2 } } }

/-- The result of a block that is EVALUATED. -/
def evaluatedResult (exceeds : Bool) : GridResult :=
  { gen := 0, time := 0, verdict := .evaluated, crossings := 10, intervals := none
    phases := Vector.replicate 3 ⟨0, none⟩
    evaluation := some { worstThd := 500, orders := [], thdExceeds := exceeds, exceeds := exceeds } }

theorem test_meets_GridBlockSteps : let g := (alarmed .normal 0 0).tables.grid[(1 : Fin 2)]
    (evaluatedResult true).evaluation.map GridEvaluation.exceeds = some true ∧
    (evaluatedResult false).evaluation.map GridEvaluation.exceeds = some false ∧
    ({ evaluatedResult true with evaluation := none } : GridResult).evaluation = none ∧
    (alarmed .normal 0 0).points[(1 : Fin 2)].raiseCount + 1 < g.persistence ∧
    g.persistence ≤ (alarmed .normal 1 0).points[(1 : Fin 2)].raiseCount + 1 ∧
    (alarmed .alarm 0 0).points[(1 : Fin 2)].clearCount + 1 < g.clear ∧
    g.clear ≤ (alarmed .alarm 0 1).points[(1 : Fin 2)].clearCount + 1 ∧
    (gridded .assembling 640 false).points[(1 : Fin 2)].marked = false ∧
    (gridded .assembling 640 true).points[(1 : Fin 2)].marked = true := by decide +kernel

/-- R123: the P-th exceeding block raises the alarm, with its notice. -/
theorem test_alarm_raises :
    let s := alarmUpdate 1 (evaluatedResult true) (alarmed .normal 1 0)
    s.points[1].alarm = .alarm ∧ s.notices.queue.map (fun n => n.offer.cls) = [.gridAlarm] := by decide +kernel

def fullQueue (priority : Nat) : State := queued ((List.range 48).map fun k => notice k priority) r0

def masking (s : State) : State :=
  { s with tables := { s.tables with global := { s.tables.global with mask := allClasses } } }

theorem test_meets_OfferMaskedOrPlaced : (masking r0).masked (Offer.base .config 3 0 1 0) = true ∧
    r0.masked (Offer.base .config 3 0 1 0) = false ∧
    (queued ((List.range 47).map fun k => notice k 3) r0).notices.queue.length < 48 ∧
    (queued ((List.range 47).map fun k => notice k 3) r0).notices.queue.Pairwise
      (fun a b => a.offer.priority ≤ b.offer.priority) := by decide +kernel

theorem test_full_queue_sound : (fullQueue 3).notices.Sound := by
  refine ⟨?_, ?_, ?_, ?_, ?_, ?_, ?_⟩ <;> decide +kernel

theorem test_meets_OverflowKeepsOldest : (fullQueue 3).masked (Offer.base .config 3 0 1 0) = false ∧
    (fullQueue 3).notices.queue.length = 48 ∧
    (∀ x ∈ (fullQueue 3).notices.queue, (fullQueue 3).notices.sending = some x.number ∨ x.offer.priority ≤ 3) ∧
    (fullQueue 3).notices.queue = ((List.range 47).map fun k => notice k 3) ++ notice 47 3 :: [] ∧
    (fullQueue 3).notices.sending ≠ some (notice 47 3).number ∧ 2 < (notice 47 3).offer.priority := by decide +kernel

def advised (k : Fin 8) (a : Advisory) (s : State) : State := s.modTurbine k fun x => { x with advisory := a }

/-- Two turbines PENDING since the same time: the lower number goes first. -/
def twoPending : State := advised 6 (.pending .stop 4) (advised 2 (.pending .reduce 4) r0)

theorem test_meets_OwnFrameOrder : (holding 0x01 r0).mgmt.reply = some (heldReply 0x01) ∧
    (queued [notice 4 3] r0).mgmt.reply = none ∧ (queued [notice 4 3] r0).notices.head = some (notice 4 3) ∧
    twoPending.turbines[(2 : Fin 8)].advisory = .pending .reduce 4 ∧
    (∀ (j : Fin 8) (w : Curtail) (at' : Nat), twoPending.turbines[j].advisory = .pending w at' →
      4 < at' ∨ (4 = at' ∧ (2 : Fin 8) ≤ j)) := by
  refine ⟨by decide +kernel, by decide +kernel, by decide +kernel, by decide +kernel, fun j w a h => ?_⟩
  have key : ∀ j : Fin 8, (match twoPending.turbines[j].advisory with
    | .pending _ b => decide (4 < b ∨ (4 = b ∧ (2 : Fin 8) ≤ j))
    | _ => true) = true := by decide +kernel
  have := key j
  rw [h] at this
  exact of_decide_eq_true this

def outgoing (buffer : List (List Byte)) (run : Nat) (s : State) : State :=
  s.modPort .field fun x => { x with buffer := buffer, sending := some (.forwarded [1]), runCount := run }

abbrev MeetsForwarded (s : State) : Prop := s.resetLow = false ∧ (s.link.port .field).sending = some (.forwarded [1])

theorem test_meets_ForwardedCompletionChoosesNext :
    (MeetsForwarded (outgoing [] 0 r0) ∧ (outgoing [] 0 r0).ownWaiting .field = false) ∧
    (MeetsForwarded (outgoing [[2]] 8 r0) ∧ (outgoing [[2]] 8 r0).ownWaiting .field = false) ∧
    (MeetsForwarded (outgoing [[2]] 7 twoPending) ∧ (outgoing [[2]] 7 twoPending).ownWaiting .field = true) ∧
    (MeetsForwarded (outgoing [[2]] 8 twoPending) ∧ (outgoing [[2]] 8 twoPending).ownWaiting .field = true) ∧
    (MeetsForwarded (outgoing [] 7 twoPending) ∧ (outgoing [] 7 twoPending).ownWaiting .field = true) := by
  decide +kernel

def noticeOut : State :=
  let s := sendingOn .station (.notice [1]) (queued [notice 4 3, notice 5 3] r0)
  { s with notices := { s.notices with sending := some 4 } }

theorem test_meets_NoticeCompletionRemovesNotice : noticeOut.resetLow = false ∧
    noticeOut.link.station.sending = some (.notice [1]) ∧ noticeOut.notices.sending = some 4 := by decide +kernel

/-- Turbine 7's ADVISORY frame in transmission, its entry in service or not, its curtail request `c`. -/
def advisoryOut (inService : Bool) (c : Curtail) (a : Advisory) : State :=
  let s := sendingOn .field (.advisory 7 [1]) (r0.modTurbine 7 fun x => { x with advisory := a, curtail := c })
  { s with tables := { s.tables with
      turbines := upd s.tables.turbines 7 fun e => { e with valid := true, advisoryEnable := inService } } }

abbrev MeetsAdvisory (s : State) (a : Advisory) : Prop := s.resetLow = false ∧
    s.link.field.sending = some (.advisory 7 [1]) ∧ s.turbines[(7 : Fin 8)].advisory = a

theorem test_meets_AdvisoryCompletionMoves :
    (MeetsAdvisory (advisoryOut false .stop (.sending .stop)) (.sending .stop) ∧
      (advisoryOut false .stop (.sending .stop)).tables.turbines[(7 : Fin 8)].inService = false) ∧
    (MeetsAdvisory (advisoryOut true .none (.sending .none)) (.sending .none) ∧
      (advisoryOut true .none (.sending .none)).tables.turbines[(7 : Fin 8)].inService = true) ∧
    (MeetsAdvisory (advisoryOut true .stop (.sending .stop)) (.sending .stop) ∧
      (advisoryOut true .stop (.sending .stop)).turbines[(7 : Fin 8)].curtail = .stop) ∧
    (MeetsAdvisory (advisoryOut true .stop (.sending .reduce)) (.sending .reduce) ∧
      (advisoryOut true .stop (.sending .reduce)).turbines[(7 : Fin 8)].curtail ≠ .reduce) ∧
    MeetsAdvisory (advisoryOut true .stop (.sendingPending .reduce .stop 0)) (.sendingPending .reduce .stop 0) := by
  decide +kernel

def replyOut (code : Byte) : State := sendingOn .station (.reply [1]) (holding code r0)

theorem test_meets_ReplyCompletionReleasesReply :
    (∀ code ∈ [0x01, 0xF0], (replyOut code).resetLow = false ∧ (replyOut code).link.station.sending = some (.reply [1]) ∧
      (replyOut code).mgmt.reply = some (heldReply code) ∧ (replyOut code).mgmt.queue = []) ∧
    (heldReply 0x01).request.code ≠ 0xF0#8 ∧ ({ heldReply 0xF0 with answer := .plain .malformed }).answer.status ≠ .ok ∧
    (waiting 1 (replyOut 0x01)).mgmt.queue = ⟨0x30, rq []⟩ :: [] ∧
    (heldReply 0xF0).request.code = 0xF0#8 ∧ (heldReply 0xF0).answer.status = .ok ∧
    (sendingOn .field (.advisory 7 [1]) (replyOut 0xF0)).link.field.sending.isSome = true := by decide +kernel

def freshState : State := atMs 5000 (r0.modTurbine 7 fun x => { x with freshness := .fresh, freshExpiry := 5000 })

def holdingState (now : Nat) : State := atMs now (advised 7 (.holding 10000) r0)

theorem test_meets_TurbineTimersExpire : freshState.resetLow = false ∧
    freshState.turbines[(7 : Fin 8)].freshness = .fresh ∧
    freshState.turbines[(7 : Fin 8)].freshExpiry ≤ freshState.clock.counter ∧ (holdingState 9999).resetLow = false ∧
    (holdingState 10000).turbines[(7 : Fin 8)].advisory = .holding 10000 ∧ 10000 ≤ (holdingState 10000).clock.counter ∧
    (holdingState 9999).turbines[(7 : Fin 8)].advisory = .holding 10000 ∧ (holdingState 9999).clock.counter < 10000 := by
  decide +kernel

/-- Channel 23 fed by entry 0, with one band in force, at the expiry of its idle timer. -/
def idleState (st : ChannelState) : State :=
  atMs 2000 ((feeding (.vibChannel 23) r0).modChannel 23 fun x =>
    { x with
      state := st
      idleExpiry := some 2000
      config := { x.config with bands := upd x.config.bands 3 fun _ => some BandEntry.init } })

abbrev MeetsIdle (s : State) : Prop := s.resetLow = false ∧ s.channels[(23 : Fin 24)].idleExpiry = some 2000 ∧
    2000 ≤ s.clock.counter

def gridIdleState : State :=
  atMs 2000 (r0.modPoint 1 fun x => { x with intake := .assembling, index := 32, idleExpiry := some 2000 })

theorem test_meets_IdleTimersEndRuns :
    (MeetsIdle (idleState .suspended) ∧ (idleState .suspended).channels[(23 : Fin 24)].state = .suspended) ∧
    (MeetsIdle (idleState .settling) ∧ (idleState .settling).channels[(23 : Fin 24)].state = .settling ∧
      (idleState .settling).channels[(23 : Fin 24)].marked = false ∧ (idleState .settling).channelBound 23 = true ∧
      (idleState .settling).channels[(23 : Fin 24)].gen = (idleState .settling).generation) ∧
    (MeetsIdle (idleState .running) ∧ (idleState .running).channels[(23 : Fin 24)].state = .running ∧
      (idleState .running).channels[(23 : Fin 24)].marked = false ∧ (idleState .running).channelBound 23 = true ∧
      (idleState .running).channels[(23 : Fin 24)].gen = (idleState .running).generation) ∧
    gridIdleState.resetLow = false ∧ gridIdleState.points[(1 : Fin 2)].intake = .assembling ∧
    gridIdleState.points[(1 : Fin 2)].idleExpiry = some 2000 ∧ 2000 ≤ gridIdleState.clock.counter := by decide +kernel

def holdoverState : State :=
  let s := atMs 3000 (clocked .locked 4 5 r0)
  { s with clock := { s.clock with holdoverExpiry := some 3000 } }

theorem test_meets_ClockEvents : (atMs 60000 r0).resetLow = false ∧ 0 < (atMs 60000 r0).clock.counter ∧
    (atMs 60000 r0).clock.counter % 60000 = 0 ∧ (atMs 60000 r0).minuteTaken ≠ (atMs 60000 r0).clock.counter ∧
    r0.clock.counter = 0 ∧ (atMs 59999 r0).clock.counter % 60000 ≠ 0 ∧
    ({ atMs 60000 r0 with minuteTaken := 60000 }).minuteTaken = (atMs 60000 r0).clock.counter ∧
    (clocked .holdover 65535 86399999 r0).clock.sync ≠ .unset ∧ (clocked .holdover 65535 86399999 r0).clock.ms = 86399999 ∧
    r0.clock.sync = .unset ∧ (clocked .locked 0 86399998 r0).clock.ms < 86399999 ∧
    holdoverState.resetLow = false ∧ holdoverState.clock.sync = .locked ∧
    holdoverState.clock.holdoverExpiry = some 3000 ∧ 3000 ≤ holdoverState.clock.counter := by decide +kernel

/-- R141, R142: the boundaries of the date part, with due day 10, lead 2 and grace 3, and the usage part's worked values
with a limit of 4000. -/
theorem test_date_and_usage_parts :
    [7, 8, 9, 10, 12, 13].map (fun d => datePart (some d) 10 2 3) = [.idle, .soon, .soon, .due, .due, .overdue] ∧
    [3499, 3500, 3999, 4000, 4999, 5000].map (fun u => usagePart u 4000) =
      [.idle, .soon, .soon, .due, .due, .overdue] := by decide +kernel

theorem test_meets_EntryEvaluation : 10 + 3 ≤ 13 ∧ 12 < 10 + 3 ∧ (10 : Int) - 2 ≤ 8 ∧ (7 : Int) < 10 - 2 ∧ 0 < 4000 ∧
    5 * 4000 ≤ 4 * 5000 ∧ 4 * 4999 < 5 * 4000 ∧ 7 * 4000 ≤ 8 * 3500 ∧ 8 * 3499 < 7 * 4000 ∧
    (valid 95 id r0).items[(95 : Fin 96)].evaluated none 0 = (valid 95 id r0).items[(95 : Fin 96)].state ∧
    (valid 95 id r0).items[(95 : Fin 96)].evaluated (some 0) 0 ≠ (valid 95 id r0).items[(95 : Fin 96)].state := by
  decide +kernel

theorem test_ready : r0.ready := by unfold State.ready; decide +kernel

theorem test_meets_UnsuitedRequestIsTurnedAway :
    (requestOf (.unknownRequestCode 0x15 (rq [])) = some ⟨0x15, rq []⟩ ∧ RequestKind.ofCode 0x15 = none ∧
      requestOf (.apply (rq [0])) = some ⟨0x14, rq [0]⟩ ∧ argBytes (.apply (rq [0])) = some 0 ∧
      (rq [0]).args.length ≠ 0 ∧ argBytes (.defer (rq [0, 0])) = some 3 ∧ (rq [0, 0]).args.length ≠ 3) ∧
    ((rq [8]).args.length < 2 ∧ at8 (rq [8, 0]).args 1 = 0 ∧ 8 < at8 (rq [8, 9]).args 1 ∧
      TableCode.ofCode (at8 (rq [8, 1]).args 0) = some .global ∧ (rq [8, 1]).args.length ≠ 2 + 1 * (1 + TableCode.global.size) ∧
      TableCode.ofCode (at8 (rq [9, 1]).args 0) = none ∧
      (rq [8, 1, 1, 0, 63, 0, 0, 0, 0]).args.length = 2 + 1 * (1 + TableCode.global.size) ∧
      TableCode.global.entries ≤ at8 (rq [8, 1, 1, 0, 63, 0, 0, 0, 0]).args 2 ∧ (rq [3, 2, 7]).args.length ≠ 2 + 2) ∧
    24 ≤ at8 (rq [24]).args 0 ∧ 96 ≤ at8 (rq [96]).args 0 ∧ 8 ≤ at8 (rq [8]).args 0 ∧
    requestOf (.defer (rq [96, 0, 1])) = some ⟨0x61, rq [96, 0, 1]⟩ ∧ (rq [96, 0, 1]).args.length = 3 := by decide +kernel

/-- R198: an index beyond the table answers a Stage entries request, without a position byte (log 41). -/
theorem test_stage_bad_index :
    (stageEntries (rq [8, 1, 1, 0, 63, 0, 0, 0, 0]) r0).2 = .plain .badIndex := by decide +kernel

theorem test_meets_RequestWaitsBehindReply : requestOf (.apply (rq [])) = some ⟨0x14, rq []⟩ ∧ r0.resetLow = false ∧
    (after (.powerOn 63) r0).node = 63#6 ∧ (waiting 3 (holding 0x01 r0)).node ≠ 63#6 ∧
    (waiting 3 (holding 0x01 r0)).mgmt.reply.isSome = true ∧ (waiting 3 (holding 0x01 r0)).mgmt.queue.length < 4 ∧
    4 ≤ (waiting 4 (holding 0x01 r0)).mgmt.queue.length := by decide +kernel

theorem test_meets_no_arguments : r0.ready ∧ (rq []).args = [] := ⟨test_ready, rfl⟩

/-- Two global records of six bytes each: both stored, or the second refused for its mode 2. -/
theorem test_meets_StagingIsAllOrNone :
    let good : List Byte := [0, 0, 63, 0, 0, 0, 0]
    let bad : List Byte := [0, 2, 63, 0, 0, 0, 0]
    TableCode.ofCode (at8 (rq ([8, 2] ++ good ++ bad)).args 0) = some .global ∧
    at8 (rq ([8, 2] ++ good ++ bad)).args 1 = 2 ∧
    (rq ([8, 2] ++ good ++ bad)).args.length = 2 + 2 * (1 + TableCode.global.size) ∧
    (∀ e ∈ entriesOf TableCode.global.size 2 (good ++ bad), e.1 < TableCode.global.entries) ∧
    (stageAll .global (entriesOf TableCode.global.size 2 (good ++ bad)) r0.staged).2 =
      [ReplyStatus.ok] ++ .badValue :: [] ∧ ReplyStatus.badValue.refuses = true ∧
    ∀ st ∈ (stageAll .global (entriesOf TableCode.global.size 2 (good ++ good)) r0.staged).2, st.refuses = false := by
  decide +kernel

theorem test_meets_ReadAndDiscardStaging : r0.ready ∧ (rq [1, 64, 0]).args = [1, 64, 0] ∧ (rq []).args = [] ∧
    TableCode.ofCode (0#8).toNat = none ∧ TableCode.ofCode (9#8).toNat = none ∧
    TableCode.ofCode (1#8).toNat = some .stream ∧ TableCode.stream.entries ≤ (64#8).toNat ∧
    (63#8).toNat < TableCode.stream.entries := ⟨test_ready, by decide +kernel⟩

/-- A staged Stream Table in which two valid entries feed one channel. -/
def conflicting : State :=
  let e : StreamEntry := { StreamEntry.init with valid := true, feed := .vibChannel 3 }
  { r0 with staged := { r0.staged with tables := { r0.staged.tables with
      streams := upd (upd r0.staged.tables.streams 0 fun _ => e) 63 fun _ => e } } }

/-- A staged copy whose channel 23 binds band 31, which is not valid, and whose ice entry 7 lists instance 0. -/
def unsound (binds : Bool) : State :=
  { r0 with staged := { r0.staged with tables := { r0.staged.tables with
      channels := upd r0.staged.tables.channels 23 fun e =>
        if binds then { e with bindings := upd e.bindings 3 fun _ => some 31 } else e
      ice := upd r0.staged.tables.ice 7 fun e => { e with valid := true } } } }

/-- A feed that one valid entry alone may have is one of the three roles. -/
theorem conflicts_iff (t : Tables) (j : Fin 64) : t.Conflicts j ↔ t.streams[j].valid = true ∧
    t.streams[j].feed.exclusive = true ∧
      ∃ i : Fin 64, i < j ∧ t.streams[i].valid = true ∧ t.streams[i].feed = t.streams[j].feed := by
  unfold Tables.Conflicts
  cases t.streams[j].feed <;> simp [StreamFeed.exclusive]

/-- The first check that fails, in the order of R202: a conflict, a binding, an ice entry; none at reset. -/
theorem test_meets_ApplyMakesStagingCurrent : r0.ready ∧ (rq []).args = [] ∧
    ({ r0 with landing := true } : State).landing = true ∧ r0.landing = false ∧
    (conflicting.staged.tables.Conflicts 63 ∧ ∀ i : Fin 64, i < 63 → ¬ conflicting.staged.tables.Conflicts i) ∧
    (∀ j : Fin 64, ¬ r0.staged.tables.Conflicts j) ∧ (∀ c : Fin 24, ¬ r0.staged.tables.BindsInvalid c) ∧
    (∀ k : Fin 8, ¬ r0.staged.tables.TracksUnsound k) ∧
    ((unsound true).staged.tables.BindsInvalid 23 ∧ ∀ c : Fin 24, c < 23 → ¬ (unsound true).staged.tables.BindsInvalid c) ∧
    (unsound false).staged.tables.TracksUnsound 7 ∧ ∀ k : Fin 8, k < 7 → ¬ (unsound false).staged.tables.TracksUnsound k := by
  simp only [conflicts_iff]
  unfold Tables.BindsInvalid Tables.TracksUnsound
  refine ⟨test_ready, ?_⟩
  repeat' apply And.intro
  all_goals decide +kernel

theorem test_apply_names_what_fails :
    conflicting.applyRefused = some { status := .conflict, reason := none, results := [1, 63] } ∧
    (unsound true).applyRefused = some { status := .badValue, reason := none, results := [2, 23] } ∧
    (unsound false).applyRefused = some { status := .badValue, reason := none, results := [5, 7] } := by decide +kernel

/-- A current channel 23 in this state, bound in force, whose source entry the staged copy keeps, moves or drops. -/
def resourced (st : ChannelState) (staged : State → State) : State :=
  let s := idleState st
  let s := { s with staged := { s.staged with tables := s.tables } }
  { s with staged := (staged s).staged }

def dropSource (s : State) : State :=
  { s with staged := { s.staged with tables := { s.staged.tables with streams := Vector.replicate 64 StreamEntry.init } } }

def moveSource (s : State) : State :=
  { s with staged := { s.staged with tables := { s.staged.tables with
      streams := upd s.staged.tables.streams 0 fun e => { e with tagMask := 1 } } } }

/-- A state whose grid point 1 and ice entry 7 are valid where the flags say so, before and after. -/
def revalued (now next : Bool) : State :=
  let s := feeding (.gridPoint 1) r0
  let set := fun (v : Bool) (t : Tables) => { t with
    grid := upd t.grid 1 fun e => { e with valid := v }
    ice := upd t.ice 7 fun e => { e with valid := v, track := [], load := upd e.load 0 fun _ => some 5 } }
  { s with tables := set now s.tables, staged := { s.staged with tables := set next s.tables } }

abbrev Passes (s : State) : Prop := s.mgmt = Mgmt.init ∧ s.resetLow = false ∧ s.node ≠ 63#6 ∧ s.applyRefused = none

/-- An Apply that brings turbine 0 out of service or into it, with its request at STOP, this advisory mechanism, and a
RUNNING channel of it with an open window. -/
def serviced (was is : Bool) (a : Advisory) : State :=
  let set := fun (v : Bool) (t : Tables) => { t with
    turbines := upd t.turbines 0 fun e => { e with valid := v, advisoryEnable := true } }
  let s := (resourced .running id).modTurbine 0 fun x => { x with curtail := .stop, advisory := a, freshness := .fresh }
  let s := s.modInst 95 fun x => { x with window := some ⟨true, true, some (1, 2), 0, false⟩ }
  { s with tables := set was s.tables, staged := { s.staged with tables := set is s.tables } }

/-- An Apply of ice entry 7, then valid with instance 3 at its first position, before which that position held `old`,
on an ICED record whose first blade is of this status. -/
def tracked (old : List (Fin 96)) (load : Option Nat) (st : BaselineStatus) : State :=
  let s := r0.modIce 7 fun r => { r with state := .iced, blades := upd r.blades 0 fun _ => ⟨5, st, some 9⟩ }
  let s := s.modTurbine 7 fun x => { x with curtail := .stop }
  let set := fun (l : List (Fin 96)) (t : Tables) => { t with
    channels := upd t.channels 0 fun e => { e with turbine := 7, bindings := upd e.bindings 3 fun _ => some 31 }
    bands := upd t.bands 31 fun e => { e with valid := true, role := .track }
    ice := upd t.ice 7 fun e => { e with valid := true, track := l, load := upd e.load 0 fun _ => load } }
  { s with tables := set old s.tables, staged := { s.staged with tables := set [3] s.tables } }

/-- An Apply that changes P of grid point 1, or the source entry of that ASSEMBLING point. -/
def regrid (persistence : Nat) (mask : Byte) (marked : Bool) : State :=
  let s := (revalued true true).modPoint 1 fun x => { x with intake := .assembling, marked := marked, raiseCount := 1 }
  { s with staged := { s.staged with tables := { s.staged.tables with
      streams := upd s.staged.tables.streams 0 fun e => { e with tagMask := mask }
      grid := upd s.staged.tables.grid 1 fun e => { e with persistence := persistence } } } }

/-- Turbine, baseline and grid point clauses: out of service, into it and neither; every test of R81 at an ICED
turbine's first blade; another P, and another source of a point marked to suspend or not. -/
theorem test_meets_apply_at_turbine_and_point :
    (∀ a b : Bool, Passes (serviced a b .quiet) ∧ (serviced a b .quiet).tables.turbines[(0 : Fin 8)].inService = a ∧
      (serviced a b .quiet).staged.tables.turbines[(0 : Fin 8)].inService = b ∧
      (serviced a b (.sending .none)).turbines[(0 : Fin 8)].advisory = .sending .none ∧
      (serviced a b .quiet).channels[(23 : Fin 24)].config.entry.turbine = 0 ∧
      (serviced a b .quiet).turbines[(0 : Fin 8)].curtail ≠ .none ∧ (serviced a b .quiet).channelBound 23 = true) ∧
    (Passes (tracked [3] (some 6) .valid) ∧ Passes (tracked [4] none .valid) ∧ Passes (tracked [3] none .loaded) ∧
      Passes (tracked [3] none .valid) ∧ (tracked [3] (some 6) .valid).staged.tables.ice[(7 : Fin 8)].load[0] = some 6 ∧
      (tracked [4] none .valid).tables.ice[(7 : Fin 8)].track[0]? ≠ some 3 ∧
      (tracked [3] none .loaded).ice[(7 : Fin 8)].blades[0].status = .loaded ∧
      (tracked [3] none .valid).staged.tables.ice[(7 : Fin 8)].track[0]? = some 3 ∧
      (tracked [3] none .valid).ice[(7 : Fin 8)].state = .iced) ∧
    (∀ m : Bool, Passes (regrid 2 0 m) ∧ Passes (regrid 1 1 m) ∧
      (regrid 2 0 m).tables.grid[(1 : Fin 2)].persistence ≠ (regrid 2 0 m).staged.tables.grid[(1 : Fin 2)].persistence ∧
      (regrid 1 1 m).tables.sourceOf (.gridPoint 1) = some 0 ∧
      (regrid 1 1 m).staged.tables.sourceOf (.gridPoint 1) = some 0 ∧
      (regrid 1 1 m).tables.streams[0] ≠ (regrid 1 1 m).staged.tables.streams[0] ∧
      (regrid 1 1 m).points[(1 : Fin 2)].marked = m) := by decide +kernel

theorem test_meets_ApplyReachesBlocks : let feed := StreamFeed.vibChannel 23
    (Passes (resourced .idle id) ∧ (resourced .idle id).channels[(23 : Fin 24)].state ≠ .running) ∧
    (Passes (resourced .running dropSource) ∧ ((resourced .running dropSource).tables.sourceOf feed).isSome = true ∧
      (resourced .running dropSource).staged.tables.sourceOf feed = none) ∧
    (Passes (resourced .running moveSource) ∧ (resourced .running moveSource).channels[(23 : Fin 24)].state = .running ∧
      (resourced .running moveSource).channelBound 23 = true ∧
      (resourced .running moveSource).tables.sourceOf feed = some 0 ∧
      (resourced .running moveSource).staged.tables.sourceOf feed = some 0 ∧
      (resourced .running moveSource).tables.streams[0] ≠ (resourced .running moveSource).staged.tables.streams[0]) ∧
    (∀ a b : Bool, Passes (revalued a b) ∧ (revalued a b).tables.pointBound 1 = a ∧
      (revalued a b).staged.tables.pointBound 1 = b ∧ (revalued a b).staged.tables.ice[(7 : Fin 8)].valid = b ∧
      (revalued a b).staged.tables.ice[(7 : Fin 8)].track[0]? = none) := by decide +kernel

/-- R25: the channel whose source entry goes away is UNBOUND at once; R107: so is the point whose entry is made not
valid, and an ASSEMBLING point whose source changes is IDLE, marked to suspend or not. -/
theorem test_apply_unbinds :
    (applyEffect (resourced .running dropSource)).channels[23].state = .unbound ∧
    (applyEffect ((revalued true false).modPoint 1 fun x => { x with intake := .idle })).points[1].intake =
      .unbound ∧
    ∀ m : Bool, (applyEffect (regrid 1 1 m)).points[(1 : Fin 2)].intake = .idle := by decide +kernel

theorem test_meets_SuspendAndResumeMoveAnalysis : r0.ready ∧ r0.analysis = .active ∧ r0.channelReport = false ∧
    r0.gridReport = false ∧ (idleState .running).channels[(23 : Fin 24)].state = .running ∧
    (idleState .idle).channels[(23 : Fin 24)].state = .idle ∧
    (r0.modPoint 1 fun x => { x with intake := .idle }).points[(1 : Fin 2)].intake = .idle ∧
    (idleState .settling).channels[(23 : Fin 24)].state = .settling ∧ (idleState .settling).channelBound 23 = true ∧
    (idleState .settling).channels[(23 : Fin 24)].gen = (idleState .settling).generation ∧
    r0.channels[(23 : Fin 24)].state = .unbound ∧ r0.points[(1 : Fin 2)].intake = .unbound ∧
    gridIdleState.points[(1 : Fin 2)].intake = .assembling ∧
    ({ idleState .suspended with analysis := .suspended } : State).analysis ≠ .active ∧
    (idleState .suspended).channels[(23 : Fin 24)].streamIdle = false ∧
    ((idleState .suspended).modChannel 23 fun x => { x with streamIdle := true }).channels[(23 : Fin 24)].streamIdle =
      true ∧
    (r0.modPoint 1 fun x => { x with intake := .suspended }).points[(1 : Fin 2)].intake = .suspended :=
  ⟨test_ready, by decide +kernel⟩

theorem test_meets_ReadingChangesOnlyFlags : r0.ready ∧ 1 ≤ ([7] : List Byte).length ∧ ([7] : List Byte).length ≤ 8 ∧
    (rq [3, 1, 7]).args = (3 : Byte) :: BitVec.ofNat 8 ([7] : List Byte).length :: [7] ∧
    r0.resultKind (3#8).toNat = some ⟨8, r0.turbineRecord⟩ ∧ (∀ b ∈ ([7] : List Byte), b.toNat < 8) ∧
    ∃ b ∈ ([8] : List Byte), 8 ≤ b.toNat := ⟨test_ready, by decide, by decide, rfl, rfl, by decide, 8, by decide⟩

theorem test_meets_FetchReturnsFirstNotices : r0.ready ∧ (rq [0]).args = [0] ∧ r0.notices.Sound ∧
    r0.notices.queue.filter (fun x => r0.notices.sending ≠ some x.number) = [] := by
  refine ⟨test_ready, rfl, ⟨?_, ?_, ?_, ?_, ?_, ?_, ?_⟩, by decide +kernel⟩ <;> decide +kernel

theorem test_meets_WithdrawAndDeliveryMode : r0.ready ∧ (rq [255]).args = [255] ∧ (7#8).toNat = (7 : Fin 8).1 ∧
    8 ≤ (8#8).toNat ∧ (8#8) ≠ 255 ∧ 2 ≤ (2#8).toNat ∧ (0#8).toNat = DeliveryMode.send.code ∧
    r0.tables.global.mode = .send ∧ (1#8).toNat = DeliveryMode.hold.code ∧ r0.tables.global.mode ≠ .hold :=
  ⟨test_ready, by decide +kernel⟩

/-- Channel 23 running, with the two slots in these states for channel `c`. -/
def capturing (a b : SlotState) (c : Fin 24) : State :=
  ((r0.modChannel 23 fun x => { x with state := .running }).modSlot 0 fun x => { x with state := a, channel := c }).modSlot 1
    fun x => { x with state := b, channel := c }

theorem test_meets_CaptureChannelTakesSlot : (capturing .held .free 0).ready ∧
    (rq [23]).args = [BitVec.ofNat 8 (23 : Fin 24).1] ∧
    r0.channels[(23 : Fin 24)].state ≠ .running ∧ r0.channels[(23 : Fin 24)].state ≠ .settling ∧
    (capturing .free .filling 23).channels[(23 : Fin 24)].state = .running ∧
    (∃ k : Fin 2, (capturing .free .filling 23).slots[k].state = .filling ∧
      (capturing .free .filling 23).slots[k].channel = 23) ∧
    (∀ k : Fin 2, (capturing .held .filling 0).slots[k].state ≠ .free ∧
      ¬((capturing .held .filling 0).slots[k].state = .filling ∧ (capturing .held .filling 0).slots[k].channel = 23)) ∧
    (capturing .held .free 0).slots[(1 : Fin 2)].state = .free ∧
    (∀ j : Fin 2, j < 1 → (capturing .held .free 0).slots[j].state ≠ .free) ∧
    ∀ j : Fin 2, ¬((capturing .held .free 0).slots[j].state = .filling ∧ (capturing .held .free 0).slots[j].channel = 23) :=
  by
  unfold State.ready; decide +kernel

theorem test_meets_ReadAndReleaseCapture : r0.ready ∧ (rq [1, 0]).args = [1, 0] ∧ (rq [1]).args = [1] ∧ 2 ≤ (2#8).toNat ∧
    (1#8).toNat = (1 : Fin 2).1 ∧ r0.slots[(1 : Fin 2)].state = .free ∧
    (capturing .held .filling 0).slots[(1 : Fin 2)].state = .filling ∧
    (capturing .held .filling 0).slots[(0 : Fin 2)].state = .held ∧
    (0#8).toNat < max 1 (((capturing .held .filling 0).slots[(0 : Fin 2)].pre +
      (capturing .held .filling 0).slots[(0 : Fin 2)].post + 63) / 64) ∧
    max 1 (((capturing .held .filling 0).slots[(0 : Fin 2)].pre +
      (capturing .held .filling 0).slots[(0 : Fin 2)].post + 63) / 64) ≤ (1#8).toNat := ⟨test_ready, by decide +kernel⟩

/-- R214: behind the block number the descriptor's 26 bytes are followed at once by the samples (log 37). -/
theorem test_read_capture_samples_follow_descriptor :
    let s := r0.modSlot 0 fun x => { x with state := .held, pre := 1, samples := [258] }
    (answerOf (after (.readCapture (rq [0, 0])) s)).map (fun a => (a.results.take 1, a.results.drop 27)) =
      some ([0], [1, 2]) := by decide +kernel

def dayed (d : Nat) (s : State) : State := { s with scheduleDay := some d }

theorem test_meets_DoneStartsNewInterval : r0.ready ∧ (rq [95]).args = [BitVec.ofNat 8 (95 : Fin 96).1] ∧
    r0.items[(95 : Fin 96)].valid = false ∧ (valid 95 id r0).items[(95 : Fin 96)].valid = true ∧
    (valid 95 id r0).scheduleDay = none ∧ (dayed 65535 (valid 95 id r0)).items[(95 : Fin 96)].valid = true ∧
    (dayed 65535 (valid 95 id r0)).scheduleDay = some 65535 := ⟨test_ready, by decide +kernel⟩

/-- Entry 95 with this deferral count and usage, limit 10, its VIB source naming instance 0 at this level. -/
def deferring (deferrals usage level : Nat) : State :=
  let s := dayed 0 (valid 95 (fun e => { e with
    deferrals := deferrals, usageLimit := 10, usage := usage, source := .vib [0] (Vector.replicate 4 1) }) r0)
  let s := s.modChannel 0 fun x => { x with config := { x.config with
    bands := upd x.config.bands 0 fun _ => some { BandEntry.init with valid := true } } }
  s.modInst 0 fun x => { x with alarm := { x.alarm with level := level } }

theorem test_meets_DeferMovesDueDay : r0.ready ∧ (rq [95, 0, 91]).args = [BitVec.ofNat 8 (95 : Fin 96).1, 0, 91] ∧
    91 = (0#8).toNat * 256 + (91#8).toNat ∧ r0.items[(95 : Fin 96)].valid = false ∧
    (valid 95 id r0).scheduleDay = none ∧ (deferring 3 0 0).items[(95 : Fin 96)].deferrals = 3 ∧
    (deferring 3 0 0).scheduleDay.isSome = true ∧
    (deferring 2 10 0).items[(95 : Fin 96)].deferrals ≠ 3 ∧
    (deferring 2 10 0).items[(95 : Fin 96)].usageLimit ≤ (deferring 2 10 0).items[(95 : Fin 96)].usage ∧
    (deferring 2 9 3).items[(95 : Fin 96)].usage < (deferring 2 9 3).items[(95 : Fin 96)].usageLimit ∧
    (deferring 2 9 3).items[(95 : Fin 96)].valid = true ∧
    (deferring 2 9 3).dangerListed (deferring 2 9 3).items[(95 : Fin 96)] = true ∧
    (deferring 2 9 2).dangerListed (deferring 2 9 2).items[(95 : Fin 96)] = false := ⟨test_ready, by decide +kernel⟩

def producing : State := r0.modTurbine 7 fun x => { x with freshness := .stale, status := { x.status with op := .producing } }

theorem test_meets_IceOverrideAndBaselineReset : r0.ready ∧ (rq [7]).args = [BitVec.ofNat 8 (7 : Fin 8).1] ∧
    producing.turbines[(7 : Fin 8)].freshness ≠ .none ∧ producing.turbines[(7 : Fin 8)].status.op = .producing ∧
    r0.turbines[(7 : Fin 8)].freshness = .none ∧ r0.ice[(7 : Fin 8)].state ≠ .clear ∧
    (r0.modIce 7 fun x => { x with state := .clear }).ice[(7 : Fin 8)].state = .clear := ⟨test_ready, by decide +kernel⟩

theorem test_initial_ice_entry_in_range : IceEntry.init.InRange := by
  unfold IceEntry.InRange TempInRange
  repeat' apply And.intro
  all_goals decide +kernel

theorem test_initial_maintenance_load_in_range : MaintLoad.init.InRange := by
  unfold MaintLoad.InRange
  repeat' apply And.intro
  all_goals first | decide +kernel | exact trivial

theorem test_meets_RecordsStageUnchanged : ChannelEntry.init.InRange ∧ TurbineEntry.init.InRange ∧
    GlobalRecord.init.InRange ∧ BandEntry.init.InRange ∧ IceEntry.init.InRange ∧ GridEntry.init.InRange ∧
    MaintLoad.init.InRange := by
  refine ⟨?_, ?_, ?_, ?_, test_initial_ice_entry_in_range, ?_, test_initial_maintenance_load_in_range⟩
  · unfold ChannelEntry.InRange; decide +kernel
  · unfold TurbineEntry.InRange; decide +kernel
  · unfold GlobalRecord.InRange; decide +kernel
  · unfold BandEntry.InRange Biquad.InRange Fits16 Thresholds.InRange; decide +kernel
  · unfold GridEntry.InRange; decide +kernel

/-- The six invariants and a step, together: the reset state, which steps. -/
theorem test_meets_invariants : r0.LinkBounded ∧ r0.notices.Sound ∧ (∀ n : Fin 96, r0.items[n].Sound) ∧
    r0.CurtailSound ∧ r0.tables.TargetsUnique ∧ r0.CaptureSound ∧ ∃ t, step r0 = .next t := by
  refine ⟨?_, ⟨?_, ?_, ?_, ?_, ?_, ?_, ?_⟩, ?_, ?_, ?_, ⟨?_, ?_, ?_⟩, ⟨_, rfl⟩⟩ <;>
    first
    | decide +kernel
    | (unfold State.LinkBounded PortState.Bounded; decide +kernel)
    | (unfold MaintItem.Sound; decide +kernel)
    | (unfold State.CurtailSound; decide +kernel)
    | (unfold Slot.Sound; decide +kernel)
    | exact fun i _ _ h => absurd h ((by decide +kernel : ∀ i : Fin 64, ¬ r0.tables.streams[i].valid = true) i)

end Sys2Proof.Tests
end

section
/-! PROOFS. The band engine's clip and accumulation (R53, R54): what `clipTo` and one RUNNING sample do, once each, and
the two statements about them. -/

namespace Sys2Proof.Machine

/-! ### The clip limit (R53) -/

theorem clipTo_of_above {limit : Nat} {v : Int} (h : (limit : Int) < v) : clipTo limit v = limit := by
  have hlow : ¬ v < -(limit : Int) := by omega
  simp only [clipTo, clampInt, if_neg hlow, if_pos h]

theorem clipTo_of_below {limit : Nat} {v : Int} (h : v < -(limit : Int)) : clipTo limit v = -(limit : Int) :=
  if_pos h

theorem clipTo_of_within {limit : Nat} {v : Int} (hlow : -(limit : Int) ≤ v) (hhigh : v ≤ limit) :
    clipTo limit v = v := by
  simp only [clipTo, clampInt, if_neg (Int.not_lt.mpr hlow), if_neg (Int.not_lt.mpr hhigh)]

/-- The clip changes exactly the values beyond the limit, those that R53 counts. -/
theorem clipTo_ne_iff (limit : Nat) (v : Int) : clipTo limit v ≠ v ↔ (limit : Int) < v ∨ v < -(limit : Int) := by
  constructor
  · intro hne
    by_contra hin
    exact hne (clipTo_of_within (by omega) (by omega))
  · rintro (habove | hbelow)
    · rw [clipTo_of_above habove]; omega
    · rw [clipTo_of_below hbelow]; omega

theorem natAbs_clipTo_le (limit : Nat) (v : Int) : (clipTo limit v).natAbs ≤ limit := by
  rcases lt_or_ge (limit : Int) v with habove | hhigh
  · rw [clipTo_of_above habove, Int.natAbs_natCast]
  · rcases lt_or_ge v (-(limit : Int)) with hbelow | hlow
    · rw [clipTo_of_below hbelow, Int.natAbs_neg, Int.natAbs_natCast]
    · rw [clipTo_of_within hlow hhigh]; omega

/-! ### One sample at a RUNNING instance (R52 to R55) -/

/-! The crossing step (R55) writes nothing but the crossing count and the armed flag. -/

@[simp] theorem crossingStep_satCount (h : Nat) (v : Int) (x : Inst) :
    (crossingStep h v x).satCount = x.satCount := by
  unfold crossingStep; split_ifs <;> rfl

@[simp] theorem crossingStep_clipCount (h : Nat) (v : Int) (x : Inst) :
    (crossingStep h v x).clipCount = x.clipCount := by
  unfold crossingStep; split_ifs <;> rfl

@[simp] theorem crossingStep_sumSq (h : Nat) (v : Int) (x : Inst) :
    (crossingStep h v x).sumSq = x.sumSq := by
  unfold crossingStep; split_ifs <;> rfl

/-- The cascade's output before the clip (R53). -/
def Inst.cascadeOutput (b : BandEntry) (y : Int) (x : Inst) : Int := (cascade b.sections x.filter y).2.1

/-- Whether a section of the cascade saturated (R51). -/
def Inst.cascadeSaturated (b : BandEntry) (y : Int) (x : Inst) : Bool := (cascade b.sections x.filter y).2.2

/-- The new accumulators of a sample, the same for either role. -/
theorem Inst.sample_accumulates (b : BandEntry) (y : Int) (x : Inst) :
    (x.sample b y).satCount =
      (if x.cascadeSaturated b y then min 16384 (x.satCount + 1) else x.satCount) ∧
    (x.sample b y).clipCount =
      (if clipTo b.clip (x.cascadeOutput b y) ≠ x.cascadeOutput b y then x.clipCount + 1 else x.clipCount) ∧
    (x.sample b y).sumSq = x.sumSq + (clipTo b.clip (x.cascadeOutput b y)).natAbs ^ 2 := by
  cases hrole : b.role with
  | measure => simp only [Inst.sample, hrole]; exact ⟨rfl, rfl, rfl⟩
  | track =>
    simp only [Inst.sample, hrole, crossingStep_satCount, crossingStep_clipCount, crossingStep_sumSq]
    exact ⟨rfl, rfl, rfl⟩

theorem Inst.sample_satCount (b : BandEntry) (y : Int) (x : Inst) (h : x.satCount < 16384) :
    (x.sample b y).satCount = if x.cascadeSaturated b y then x.satCount + 1 else x.satCount := by
  obtain ⟨hsat, -, -⟩ := x.sample_accumulates b y
  rw [hsat, min_eq_right (by omega : x.satCount + 1 ≤ 16384)]

theorem Inst.sample_clipCount (b : BandEntry) (y : Int) (x : Inst) :
    (x.sample b y).clipCount =
      if (b.clip : Int) < x.cascadeOutput b y ∨ x.cascadeOutput b y < -(b.clip : Int) then x.clipCount + 1
      else x.clipCount := by
  obtain ⟨-, hclip, -⟩ := x.sample_accumulates b y
  rw [hclip]
  exact if_congr (clipTo_ne_iff ..) rfl rfl

theorem Inst.sample_sumSq (b : BandEntry) (y : Int) (x : Inst) :
    (x.sample b y).sumSq = x.sumSq + (clipTo b.clip (x.cascadeOutput b y)).natAbs ^ 2 := by
  obtain ⟨-, -, hsum⟩ := x.sample_accumulates b y
  exact hsum

/-- Each sample adds at most the square of the clip limit, whatever the filter holds. -/
theorem Inst.foldl_sample_sumSq_le (b : BandEntry) (ys : List Int) (x : Inst) :
    (ys.foldl (fun z y => z.sample b y) x).sumSq ≤ x.sumSq + ys.length * b.clip ^ 2 := by
  induction ys generalizing x with
  | nil => simp
  | cons y ys ih =>
    have hsq := Nat.pow_le_pow_left (natAbs_clipTo_le b.clip (x.cascadeOutput b y)) 2
    calc (ys.foldl (fun z y => z.sample b y) (x.sample b y)).sumSq
        ≤ (x.sample b y).sumSq + ys.length * b.clip ^ 2 := ih _
      _ ≤ x.sumSq + b.clip ^ 2 + ys.length * b.clip ^ 2 := by rw [Inst.sample_sumSq]; omega
      _ = x.sumSq + (y :: ys).length * b.clip ^ 2 := by rw [List.length_cons]; ring

/-! ### The statements -/

/-- Settles O16: the three ranges of `clipTo`, and the counts of one sample read through its cascade output. -/
theorem clipLimitsCascadeOutput : Obligations.ClipLimitsCascadeOutput := by
  intro b y v sat x _ hmax hcascade
  have hout : x.cascadeOutput b y = v := congrArg Prod.fst hcascade
  have hsat : x.cascadeSaturated b y = sat := congrArg Prod.snd hcascade
  have hcount := x.sample_clipCount b y
  rw [hout] at hcount
  refine ⟨clipTo_of_above, clipTo_of_below, clipTo_of_within, hcount, ?_, ?_⟩
  · intro hleast
    rw [hcount, if_pos (Or.inr (by omega))]
  · intro hroom
    rw [Inst.sample_satCount b y x hroom, hsat]

/-- Settles O17: at most 16384 squares of at most 32767², from 0. -/
theorem sumOfSquaresFits48Bits : Obligations.SumOfSquaresFits48Bits := by
  intro b ys x hmax hlen hzero
  refine ⟨fun z y => ⟨z.sample_sumSq b y, (natAbs_clipTo_le ..).trans hmax⟩, ?_, by norm_num⟩
  calc (ys.foldl (fun z y => z.sample b y) x).sumSq
      ≤ x.sumSq + ys.length * b.clip ^ 2 := Inst.foldl_sample_sumSq_le b ys x
    _ ≤ 0 + 16384 * 32767 ^ 2 := by rw [hzero]; gcongr
    _ = 17591112318976 := by norm_num

end Sys2Proof.Machine
end

section
/-! PROOFS. The ice monitor's states SUSPECT and ICED (R89, R90): an equation per case of their steps, and the two
statements about them. -/

namespace Sys2Proof.Machine

/-! ### The fields of a stepped record -/

section
variable (r : IceRecord) (st : IceState) (evidence clear thaw : Nat)

@[simp] theorem IceRecord.counts_state : (r.counts st evidence clear thaw).state = st := rfl

@[simp] theorem IceRecord.counts_evidence : (r.counts st evidence clear thaw).evidence = evidence := rfl

@[simp] theorem IceRecord.counts_clear : (r.counts st evidence clear thaw).clear = clear := rfl

@[simp] theorem IceRecord.counts_thaw : (r.counts st evidence clear thaw).thaw = thaw := rfl

@[simp] theorem IceRecord.counts_blades : (r.counts st evidence clear thaw).blades = r.blades := rfl

end

section
variable {e : IceEntry} {k : TrackConditions} {r : IceRecord}

/-! ### SUSPECT (R89) -/

theorem iceStep_of_suspect (hstate : r.state = .suspect) (hfresh : k.fresh = true) :
    iceStep e k r = stepSuspect e k r := by
  simp [iceStep, hstate, hfresh]

theorem stepSuspect_of_evidence_at_limit (hevidence : k.evidence = true) (hlimit : e.niced ≤ r.evidence + 1) :
    stepSuspect e k r = r.counts .iced e.niced 0 0 := by
  simp only [stepSuspect, if_pos hevidence, if_pos hlimit]

theorem stepSuspect_of_evidence_below_limit (hevidence : k.evidence = true) (hbelow : r.evidence + 1 < e.niced) :
    stepSuspect e k r = r.counts .suspect (r.evidence + 1) 0 0 := by
  simp only [stepSuspect, if_pos hevidence, if_neg hbelow.not_ge]

theorem stepSuspect_of_clean_last (hclean : k.evidence = false) (hevaluable : k.evaluable = true)
    (hlast : r.evidence ≤ 1) : stepSuspect e k r = r.counts .watch 0 0 0 := by
  have hzero : r.evidence - 1 = 0 := by omega
  simp [stepSuspect, hclean, hevaluable, hzero]

theorem stepSuspect_of_clean_more (hclean : k.evidence = false) (hevaluable : k.evaluable = true)
    (hmore : 1 < r.evidence) : stepSuspect e k r = r.counts .suspect (r.evidence - 1) 0 0 := by
  have hleft : r.evidence - 1 ≠ 0 := by omega
  simp [stepSuspect, hclean, hevaluable, hleft]

theorem stepSuspect_of_not_evaluable (hclean : k.evidence = false) (hevaluable : k.evaluable = false) :
    stepSuspect e k r = r := by
  simp [stepSuspect, hclean, hevaluable]

theorem stepSuspect_ignores_gate (g : Bool) : stepSuspect e { k with gate := g } r = stepSuspect e k r := rfl

@[simp] theorem stepSuspect_blades : (stepSuspect e k r).blades = r.blades := by
  unfold stepSuspect; split_ifs <;> simp only [IceRecord.counts_blades]

/-! ### ICED (R90) -/

theorem iceStep_of_iced (hstate : r.state = .iced) (hfresh : k.fresh = true) : iceStep e k r = stepIced e k r := by
  simp [iceStep, hstate, hfresh]

theorem stepIced_of_warm_at_limit (hwarm : k.warm = true) (hlimit : e.nthaw ≤ r.thaw + 1) :
    stepIced e k r = r.counts .thawing e.niced 0 0 := by
  simp only [stepIced, if_pos hwarm, if_pos hlimit]

theorem stepIced_of_warm_below_limit (hwarm : k.warm = true) (hbelow : r.thaw + 1 < e.nthaw) :
    stepIced e k r = r.counts .iced e.niced 0 (r.thaw + 1) := by
  simp only [stepIced, if_pos hwarm, if_neg hbelow.not_ge]

theorem stepIced_of_cold (hcold : k.warm = false) : stepIced e k r = r.counts .iced e.niced 0 0 := by
  simp [stepIced, hcold]

theorem stepIced_congr_warm {k' : TrackConditions} (hwarm : k'.warm = k.warm) :
    stepIced e k' r = stepIced e k r := by
  simp only [stepIced, hwarm]

end

/-! ### The statements -/

/-- Settles O19: a fresh window in SUSPECT is `stepSuspect`, whose cases are the clauses of R89. -/
theorem suspectStep : Obligations.SuspectStep := by
  intro e k r hstate hfresh _ hevaluable
  rw [iceStep_of_suspect hstate hfresh]
  refine ⟨?_, ?_, ?_, ?_, ?_, ?_, stepSuspect_blades⟩
  · intro hevidence hlast
    simp [stepSuspect_of_evidence_at_limit hevidence hlast.ge]
  · intro hevidence hbelow
    simp [stepSuspect_of_evidence_below_limit hevidence hbelow]
  · intro hclean heval hone
    simp [stepSuspect_of_clean_last hclean heval hone.le]
  · intro hclean heval hmore
    simp [stepSuspect_of_clean_more hclean heval hmore]
  · intro hnot
    have hclean : k.evidence = false := by simpa [hnot] using hevaluable
    exact stepSuspect_of_not_evaluable hclean hnot
  · intro g
    rw [iceStep_of_suspect (k := { k with gate := g }) hstate hfresh, stepSuspect_ignores_gate]

/-- Settles O20: a fresh window in ICED is `stepIced`, which reads nothing of the conditions but their warmth (R90). -/
theorem icedStep : Obligations.IcedStep := by
  intro e k r hstate hfresh hstands
  rw [iceStep_of_iced hstate hfresh]
  refine ⟨?_, ?_, ?_, ?_⟩
  · intro hwarm hbelow
    simp [stepIced_of_warm_below_limit hwarm hbelow, hstands]
  · intro hwarm hlimit
    simp [stepIced_of_warm_at_limit hwarm hlimit]
  · intro hcold
    simp [stepIced_of_cold hcold, hstands]
  · intro k' hfresh' hwarm
    rw [iceStep_of_iced hstate hfresh', stepIced_congr_warm hwarm]

end Sys2Proof.Machine
end

section
/-! PROOFS. The sync test of a completed grid block (R114): which numbers are intervals of a list, what the test asks of
them, and that a verdict is OFF_SYNC by this test alone. -/

namespace Sys2Proof.Machine

/-! ### The intervals of a crossing list -/

theorem mem_intervals_iff (a : List Nat) (i : Nat) :
    i ∈ intervals a ↔ ∃ (k : Nat) (h : k + 1 < a.length), a[k + 1] - a[k] = i := by
  induction a using intervals.induct with
  | case1 x y rest ih =>
    rw [intervals, List.mem_cons, ih]
    constructor
    · rintro (rfl | ⟨k, hk, hi⟩)
      · exact ⟨0, by simp, rfl⟩
      · exact ⟨k + 1, Nat.succ_lt_succ hk, hi⟩
    · rintro ⟨k, hk, hi⟩
      cases k with
      | zero => exact .inl hi.symm
      | succ k => exact .inr ⟨k, Nat.lt_of_succ_lt_succ hk, hi⟩
  | case2 a hshort =>
    match a, hshort with
    | [], _ => simp [intervals]
    | [_], _ => simp [intervals]
    | x :: y :: rest, hshort => exact absurd rfl (hshort x y rest)

/-! ### The sync test (R114) and the verdict (R119) -/

theorem offSync_eq_true_iff (a : List Nat) :
    offSync a = true ↔ a.length < 9 ∨ ∃ i ∈ intervals a, i < 62 ∨ 66 < i := by
  simp [offSync]

/-- R119 takes the sync test first, and no later test answers OFF_SYNC. -/
theorem gridVerdict_eq_offSync_iff (l : Latch) (acc : Vector PhaseAcc 3) (d : Vector Detector 3) :
    gridVerdict l acc d = .offSync ↔ offSync d[0].list = true := by
  unfold gridVerdict
  split
  next hoff => simp [hoff]
  next hsound =>
    refine iff_of_false ?_ hsound
    split_ifs <;> nofun

/-! ### The statement -/

/-- Settles O23: the verdict is OFF_SYNC when phase A fails the sync test, and the intervals it tests are the differences
of consecutive entries. A list that does not increase would meet the equivalence too: the model's differences and the
statement's both stop at 0. -/
theorem offSyncTest : Obligations.OffSyncTest := by
  intro l acc d _
  rw [gridVerdict_eq_offSync_iff, offSync_eq_true_iff]
  refine or_congr_right ⟨?_, ?_⟩
  · rintro ⟨i, hmem, hout⟩
    obtain ⟨k, hk, rfl⟩ := (mem_intervals_iff _ i).mp hmem
    exact ⟨k, hk, hout⟩
  · rintro ⟨k, hk, hout⟩
    exact ⟨_, (mem_intervals_iff _ _).mpr ⟨k, hk, rfl⟩, hout⟩

end Sys2Proof.Machine
end

section
/-! PROOFS. Power-on as the management unit sees it (R208), a request taken at once whose effect leaves the clock alone
(R197), and Identify (R205). -/

namespace Sys2Proof.Machine

/-! ### Power-on (R208) -/

/-- The meaning of POWER_ON: of the state before it only the waiting commands are left. -/
theorem exec_powerOn (straps : BitVec 6) (s : State) :
    exec (.powerOn straps) s = .next { State.powerOn straps with pending := s.pending } := rfl

@[simp] theorem Staged.init_loads (n : Fin 96) : Staged.init.loads[n] = MaintLoad.init := by
  simp [Staged.init]

@[simp] theorem Staged.init_marks (n : Fin 96) : Staged.init.marks[n] = false := by
  simp [Staged.init]

/-! ### A request taken at once (R197) -/

/-- The reply's stamp is read before the effect and `State.answered` reads it after: they agree where the effect leaves
the clock alone. -/
theorem takeRequest_eq_answered {q : QueuedRequest} {s s' : State} {a : Answer} (hdone : carryOut q s = (s', a))
    (hclock : s'.clock = s.clock) : takeRequest q s = s'.answered q.code q.rq a := by
  simp only [takeRequest, hdone, State.answered, State.stamp, hclock]

/-- A ready part carries a request out in the command that brings it and holds the reply; the arbiters add only what
`hideFrames` hides. -/
theorem live_request_answered {code : Byte} {rq : Request} {s s' : State} {a : Answer} (hready : s.ready)
    (hdone : carryOut ⟨code, rq⟩ s = (s', a)) (hclock : s'.clock = s.clock) :
    ∃ t, live (request code rq) s = .next t ∧ t.hideFrames = (s'.answered code rq a).hideFrames :=
  ⟨_, request_live code rq hready, by rw [arbitrate_hideFrames, takeRequest_eq_answered hdone hclock]⟩

/-! ### Identify (R205) -/

theorem exec_identify (rq : Request) (s : State) : exec (.identify rq) s = live (request 0x01 rq) s := rfl

theorem carryOut_identify (rq : Request) (s : State) : carryOut ⟨0x01, rq⟩ s = identify rq s := rfl

/-- The words of R205 spelled in bytes: 2E71h, 2408 = 0968h and 1, then the node number and the generation. -/
theorem identify_of_no_arguments {rq : Request} (hargs : rq.args = []) (s : State) :
    identify rq s = (s, .ok ([0x2E, 0x71, 0x09, 0x68, 1] ++ u8 s.node.toNat ++ u16 s.generation)) := by
  have hsize : rq.args.length = 0 := by rw [hargs, List.length_nil]
  have hwords : u16 0x2E71 ++ u16 2408 ++ u8 1 = [0x2E, 0x71, 0x09, 0x68, 1] := by decide
  rw [identify, sized, if_pos hsize, hwords]

/-! ### The statements -/

/-- Settles O4: the state after POWER_ON is `State.powerOn` but for the waiting commands, and its fields are R208's. -/
theorem powerOnManagementUnit : Obligations.PowerOnManagementUnit := by
  intro straps s
  exact ⟨_, exec_powerOn straps s, rfl, rfl, rfl, rfl, rfl,
    fun n => ⟨Staged.init_loads n, Staged.init_marks n⟩, rfl, rfl, rfl, rfl⟩

/-- Settles O38: Identify's effect is the state as it stands, so nothing but the held reply changes. -/
theorem identifyReturnsIdentity : Obligations.IdentifyReturnsIdentity := by
  intro rq s hready hargs
  rw [exec_identify]
  exact live_request_answered hready ((carryOut_identify rq s).trans (identify_of_no_arguments hargs s)) rfl

end Sys2Proof.Machine
end

section
/-! PROOFS. What the work of the analysis blocks is made of: `Moves W s t` says that `t` comes from `s` by a sequence of
the few writes the blocks make, each inside the footprint `W`. One lemma per operation says so once; what an operation
leaves alone, and which invariants it keeps, then follows from inductions over `Moves` instead of over its branches. -/

namespace Sys2Proof.Machine

/-! ### Footprints and moves -/

/-- Which parts of the state a piece of work may write; notices may always be offered. -/
structure Footprint where
  turbines : Prop
  channel : Fin 24 → Prop
  inst : Fin 96 → Prop
  /-- The ice record of a turbine, its curtail request and its advisory. -/
  ice : Fin 8 → Prop
  point : Fin 2 → Prop
  items : Prop
  slots : Prop
  counts : Prop
  /-- The landing, the analysis state and its reports. -/
  analysis : Prop
  day : Prop

/-- A slot update that keeps the slot sound and makes it fill for no other channel. -/
def KeepsSlot (x y : Slot) : Prop :=
  (x.Sound → y.Sound) ∧ (y.state = .filling → x.state = .filling ∧ y.channel = x.channel)

/-- A curtail request in line with an ice state (R94). -/
def CurtailFits (v : Curtail) (st : IceState) : Prop := v = .none ↔ (st ≠ .iced ∧ st ≠ .thawing)

/-- `t` comes from `s` by writes inside `W`, each of which keeps the invariants of its part. -/
inductive Moves (W : Footprint) (s : State) : State → Prop
  | refl : Moves W s s
  | offer {t : State} (o : Offer) : Moves W s t → Moves W s (offer o t)
  | worst {t : State} (k : Fin 8) (n : Nat) : Moves W s t → Moves W s (t.modTurbine k fun x => { x with worst := n })
  | turbine {t : State} (k : Fin 8) (f : Turbine → Turbine) : W.turbines → (∀ x, (f x).curtail = x.curtail) →
      Moves W s t → Moves W s (t.modTurbine k f)
  | channel {t : State} (c : Fin 24) (f : Channel → Channel) : W.channel c →
      (∀ x, x.ring.length ≤ 2048 → (f x).ring.length ≤ 2048) → Moves W s t → Moves W s (t.modChannel c f)
  | insts {t : State} (v : Vector Inst 96) : (∀ i : Fin 96, ¬ W.inst i → v[i] = t.insts[i]) → Moves W s t →
      Moves W s { t with insts := v }
  | ice {t : State} (k : Fin 8) (f : IceRecord → IceRecord) : W.ice k → (f t.ice[k]).state = t.ice[k].state →
      Moves W s t → Moves W s (t.modIce k f)
  | iceState {t : State} (k : Fin 8) (f : IceRecord → IceRecord) (v : Curtail) : W.ice k →
      CurtailFits v (f t.ice[k]).state → Moves W s t → Moves W s (writeCurtail k v (t.modIce k f))
  | point {t : State} (p : Fin 2) (f : GridPoint → GridPoint) : W.point p → Moves W s t → Moves W s (t.modPoint p f)
  | item {t : State} (n : Fin 96) (f : MaintItem → MaintItem) : W.items →
      (∀ x, (f x).deferrals = x.deferrals ∧ (f x).dueDay = x.dueDay ∧ (f x).baseDue = x.baseDue) → Moves W s t →
      Moves W s (t.modItem n f)
  | slot {t : State} (k : Fin 2) (f : Slot → Slot) : W.slots → KeepsSlot t.slots[k] (f t.slots[k]) → Moves W s t →
      Moves W s (t.modSlot k f)
  | capture {t : State} (c : Fin 24) (trigger : Trigger) (origin : Option (Fin 96)) (gen : Nat) : W.slots →
      t.captureRefused c = none → Moves W s t → Moves W s (captureStart c trigger origin gen t)
  | counts {t : State} (v : Vector StreamCounts 64) : W.counts → Moves W s t → Moves W s { t with counts := v }
  | analysis {t : State} (landing : Bool) (st : AnalysisState) (cr gr : Bool) : W.analysis → Moves W s t →
      Moves W s { t with landing := landing, analysis := st, channelReport := cr, gridReport := gr }
  | day {t : State} (d : Option Nat) : W.day → Moves W s t → Moves W s { t with scheduleDay := d }

section
variable {W : Footprint} {s t : State}

theorem Moves.forAll {n : Nat} {f : Fin n → State → State} (hf : ∀ i t, Moves W s t → Moves W s (f i t))
    (h : Moves W s t) : Moves W s (forAll n f t) := forAll_keeps (Moves W s) hf t h

theorem Moves.foldl {α : Type} {f : State → α → State} {l : List α} (hf : ∀ t a, Moves W s t → Moves W s (f t a))
    (h : Moves W s t) : Moves W s (l.foldl f t) := foldl_keeps (Moves W s) hf l t h

theorem Moves.trans {u : State} (h : Moves W s t) (h' : Moves W t u) : Moves W s u := by
  induction h' with
  | refl => exact h
  | offer o _ ih => exact .offer o ih
  | worst k n _ ih => exact .worst k n ih
  | turbine k f hw hf _ ih => exact .turbine k f hw hf ih
  | channel c f hw hf _ ih => exact .channel c f hw hf ih
  | insts v hv _ ih => exact .insts v hv ih
  | ice k f hw hf _ ih => exact .ice k f hw hf ih
  | iceState k f v hw hf _ ih => exact .iceState k f v hw hf ih
  | point p f hw _ ih => exact .point p f hw ih
  | item n f hw hf _ ih => exact .item n f hw hf ih
  | slot k f hw hf _ ih => exact .slot k f hw hf ih
  | capture c tr o g hw hc _ ih => exact .capture c tr o g hw hc ih
  | counts v hw _ ih => exact .counts v hw ih
  | analysis l st cr gr hw _ ih => exact .analysis l st cr gr hw ih
  | day d hw _ ih => exact .day d hw ih

/-- A change of one instance. -/
theorem Moves.inst (i : Fin 96) (f : Inst → Inst) (hw : W.inst i) (h : Moves W s t) : Moves W s (t.modInst i f) :=
  .insts _ (fun _ hj => upd_other _ _ _ _ fun e => hj (e ▸ hw)) h

/-- A change of every instance that stands outside the footprint. -/
theorem Moves.mapInsts (f : Fin 96 → Inst → Inst) (hf : ∀ i x, ¬ W.inst i → f i x = x) (h : Moves W s t) :
    Moves W s (t.mapInsts f) :=
  .insts _ (fun i hi => (tabulate_get _ _ i).trans (hf i _ hi)) h

/-! ### Turbine contexts and maintenance -/

theorem recomputeWorst_moves (k : Fin 8) (h : Moves W s t) : Moves W s (recomputeWorst k t) := .worst k _ h

theorem eachWindow_moves (k : Fin 8) (f : WindowContext → WindowContext)
    (hi : ∀ i, t.turbineOf (instChannel i) = k → W.inst i) (h : Moves W s t) : Moves W s (eachWindow k f t) :=
  .mapInsts _ (fun i _ hn => if_neg fun e => hn (hi i e)) h

theorem takeStatus_moves (k : Fin 8) (p : List Byte) (ht : W.turbines)
    (hi : ∀ i, t.turbineOf (instChannel i) = k → W.inst i) (h : Moves W s t) : Moves W s (takeStatus k p t) :=
  eachWindow_moves k _ hi (.turbine k _ ht (fun _ => rfl) h)

theorem freshnessExpires_moves (k : Fin 8) (ht : W.turbines) (hi : ∀ i, t.turbineOf (instChannel i) = k → W.inst i)
    (h : Moves W s t) : Moves W s (freshnessExpires k t) := by
  unfold freshnessExpires
  split
  · exact eachWindow_moves k _ hi (.turbine k _ ht (fun _ => rfl) h)
  · exact h

theorem resendExpires_moves (k : Fin 8) (ht : W.turbines) (h : Moves W s t) : Moves W s (resendExpires k t) := by
  unfold resendExpires
  split
  · split
    · exact .turbine k _ ht (fun _ => rfl) h
    · exact h
  · exact h

theorem evaluate_moves (n : Fin 96) (hm : W.items) (h : Moves W s t) : Moves W s (evaluate n t) := by
  simp only [evaluate]
  split
  · exact h
  · exact .offer _ (.item n _ hm (fun _ => ⟨rfl, rfl, rfl⟩) h)

theorem addUsage_moves (n : Fin 96) (w : Nat) (hm : W.items) (h : Moves W s t) : Moves W s (addUsage n w t) :=
  evaluate_moves n hm (.item n _ hm (fun _ => ⟨rfl, rfl, rfl⟩) h)

theorem report_moves (weight : MaintItem → Option Nat) (hm : W.items) (h : Moves W s t) :
    Moves W s (report weight t) :=
  h.forAll fun n t h => by
    split
    · split
      · exact addUsage_moves n _ hm h
      · exact h
    · exact h

theorem reportTrack_moves (k : Fin 8) (hm : W.items) (h : Moves W s t) : Moves W s (reportTrack k t) := by
  unfold reportTrack
  split
  · exact report_moves _ hm h
  · exact h

theorem evaluateValid_moves (hm : W.items) (h : Moves W s t) : Moves W s (evaluateValid t) :=
  h.forAll fun n t h => by
    split
    · exact evaluate_moves n hm h
    · exact h

theorem dayChange_moves (hd : W.day) (hm : W.items) (h : Moves W s t) : Moves W s (dayChange t) :=
  evaluateValid_moves hm (.day _ hd h)

theorem clockSet_moves (hd : W.day) (hm : W.items) (h : Moves W s t) : Moves W s (clockSet t) :=
  evaluateValid_moves hm (.day _ hd h)

theorem reissue_moves (k : Fin 8) (n : Fin 96) (h : Moves W s t) : Moves W s (reissue k n t) := by
  simp only [reissue]
  split
  · exact .offer _ h
  · exact h

theorem restoredReported_moves (k : Fin 8) (h : Moves W s t) : Moves W s (restoredReported k t) :=
  Moves.forAll (fun n _ => reissue_moves k n) (.offer _ h)

/-! ### Captures -/

theorem fillingFor_iff (x : Slot) (c : Fin 24) : x.fillingFor c = true ↔ x.state = .filling ∧ x.channel = c := by
  simp [Slot.fillingFor]

theorem State.modSlot_modSlot (k : Fin 2) (f g : Slot → Slot) : (s.modSlot k f).modSlot k g = s.modSlot k (g ∘ f) := by
  simp only [State.modSlot, upd, Function.comp]
  simp

/-- A FILLING slot takes one more sample, and is HELD once it has all 2048 (R161). -/
def Slot.append (y : Int) (x : Slot) : Slot :=
  { x with samples := x.samples ++ [y], post := x.post + 1,
           state := if Config.postSize ≤ x.post + 1 then .held else x.state }

/-- A FILLING slot whose channel stops is HELD and truncated (R162). -/
def Slot.truncate (x : Slot) : Slot := { x with state := .held, truncated := true }

theorem Slot.append_keeps (y : Int) {x : Slot} (hx : x.state = .filling) : KeepsSlot x (x.append y) := by
  constructor
  · intro h hfree
    obtain ⟨hpre, hpost, hbelow, hlen⟩ := h (by simp [hx])
    have := hbelow hx
    refine ⟨hpre, show x.post + 1 ≤ 2048 by omega, fun hf => ?_, ?_⟩
    · by_contra hfull
      have hheld : (x.append y).state = .held := if_pos (Nat.not_lt.mp hfull)
      rw [hheld] at hf
      cases hf
    · simp only [Slot.append, List.length_append, List.length_singleton, hlen]
      omega
  · exact fun _ => ⟨hx, rfl⟩

theorem Slot.truncate_keeps {x : Slot} (hx : x.state = .filling) : KeepsSlot x x.truncate := by
  constructor
  · intro h _
    obtain ⟨hpre, hpost, -, hlen⟩ := h (by simp [hx])
    exact ⟨hpre, hpost, nofun, hlen⟩
  · intro hf; cases hf

/-- One slot's part in the appending of a sample. -/
theorem captureAppend_slot (k : Fin 2) (y : Int) (t : State) :
    (let u := t.modSlot k fun x => { x with samples := x.samples ++ [y], post := x.post + 1 }
     if Config.postSize ≤ u.slots[k].post then heldNotice k (u.modSlot k fun x => { x with state := .held }) else u) =
      if Config.postSize ≤ t.slots[k].post + 1 then heldNotice k (t.modSlot k (Slot.append y))
      else t.modSlot k (Slot.append y) := by
  have hpost : (t.modSlot k fun x => { x with samples := x.samples ++ [y], post := x.post + 1 }).slots[k].post =
      t.slots[k].post + 1 := by rw [State.modSlot_slots, upd_same]
  simp only [hpost, State.modSlot_modSlot]
  split
  next h =>
    congr 1
    simp only [State.modSlot, upd, Slot.append, Function.comp, if_pos h]
  next h => simp only [State.modSlot, upd, Slot.append, if_neg h]

theorem captureAppend_moves (c : Fin 24) (y : Int) (hs : W.slots) (h : Moves W s t) :
    Moves W s (captureAppend c y t) :=
  h.forAll fun k t h => by
    split
    next hfill =>
      have hkeep := Slot.append_keeps y ((fillingFor_iff _ _).mp hfill).1
      rw [captureAppend_slot]
      split
      · exact .offer _ (.slot k _ hs hkeep h)
      · exact .slot k _ hs hkeep h
    next => exact h

theorem captureTruncate_moves (c : Fin 24) (hs : W.slots) (h : Moves W s t) : Moves W s (captureTruncate c t) :=
  h.forAll fun k t h => by
    split
    next hfill => exact .offer _ (.slot k _ hs (Slot.truncate_keeps ((fillingFor_iff _ _).mp hfill).1) h)
    next => exact h

theorem captureTrigger_moves (i : Fin 96) (trigger : Trigger) (gen : Nat) (hs : W.slots) (h : Moves W s t) :
    Moves W s (captureTrigger i trigger gen t) := by
  simp only [captureTrigger]
  split
  · exact h
  · split
    next => exact .offer _ h
    next hc => exact .capture _ _ _ _ hs hc h

/-! ### Icing -/

theorem holdReports_moves (k : Fin 8) (old new : IceState) (h : Moves W s t) : Moves W s (holdReports k old new t) := by
  unfold holdReports
  split
  · exact .offer _ h
  · split
    · exact restoredReported_moves k h
    · exact h

theorem curtailFits_curtailOf (level : IcedLevel) (st : IceState) : CurtailFits (curtailOf level st) st := by
  cases st <;> cases level <;> simp [CurtailFits, curtailOf]

theorem State.modIce_modIce (k : Fin 8) (f g : IceRecord → IceRecord) : (s.modIce k f).modIce k g = s.modIce k (g ∘ f) := by
  simp only [State.modIce, upd, Function.comp]
  simp

theorem State.modIce_id (k : Fin 8) : s.modIce k (fun r => r) = s := by
  simp only [State.modIce, upd, Fin.getElem_fin, Vector.set_getElem_self]

/-- The ice record after a track window of blade `b` that counted `c` crossings (R85, R92). -/
def IceRecord.track (e : IceEntry) (k : TrackConditions) (b : Fin 3) (c : Nat) (r : IceRecord) : IceRecord :=
  let r := iceStep e k { r with blades := upd r.blades b fun x => { x with lastC := some c } }
  if r.state = .clear ∧ k.evaluable = true ∧ k.learnWarm = true then
    { r with blades := upd r.blades b fun x => x.learn c }
  else r

theorem State.modIce_congr {k : Fin 8} {f g : IceRecord → IceRecord} (h : f s.ice[k] = g s.ice[k]) :
    s.modIce k f = s.modIce k g := by
  simp only [State.modIce, upd, h]

theorem State.modIce_when (k : Fin 8) (f g : IceRecord → IceRecord) (P : IceRecord → Prop) [DecidablePred P] :
    (if P (s.modIce k f).ice[k] then (s.modIce k f).modIce k g else s.modIce k f) =
      s.modIce k fun r => if P (f r) then g (f r) else f r := by
  rw [State.modIce_ice, upd_same]
  split
  next h => rw [State.modIce_modIce]; exact State.modIce_congr (if_pos h).symm
  next h => exact State.modIce_congr (if_neg h).symm

/-- A track window writes its record once; only a change of state has effects beyond it. -/
theorem trackWindow_eq (k : Fin 8) (b : Fin 3) (i : Fin 96) (v : Verdict) (c gen : Nat) (t : State) :
    trackWindow k b i v c gen t =
      (let q := trackConditions t.tables.ice[k] t.turbines[k] t.ice[k].blades[b] v c
       let u := t.modIce k (IceRecord.track t.tables.ice[k] q b c)
       if u.ice[k].state = t.ice[k].state then u
       else iceEffects k i t.ice[k].state (trackValue t.ice[k].blades[b] c) gen u) := by
  have hone := State.modIce_when (s := t) k
    (iceStep t.tables.ice[k] (trackConditions t.tables.ice[k] t.turbines[k] t.ice[k].blades[b] v c) ∘
      fun r => { r with blades := upd r.blades b fun x => { x with lastC := some c } })
    (fun r => { r with blades := upd r.blades b fun x => x.learn c })
    (fun r => r.state = .clear ∧
      (trackConditions t.tables.ice[k] t.turbines[k] t.ice[k].blades[b] v c).evaluable = true ∧
      (trackConditions t.tables.ice[k] t.turbines[k] t.ice[k].blades[b] v c).learnWarm = true)
  rw [← State.modIce_modIce] at hone
  exact congrArg (fun u : State => if u.ice[k].state = t.ice[k].state then u
    else iceEffects k i t.ice[k].state (trackValue t.ice[k].blades[b] c) gen u) hone

theorem iceEffects_moves (k : Fin 8) (i : Fin 96) (old : IceState) (v : NoticeValue) (gen : Nat)
    (f : IceRecord → IceRecord) (hk : W.ice k) (hs : W.slots) (h : Moves W s t) :
    Moves W s (iceEffects k i old v gen (t.modIce k f)) := by
  have hcurtail : Moves W s (writeCurtail k (curtailOf (t.modIce k f).tables.ice[k].level (t.modIce k f).ice[k].state)
      (t.modIce k f)) := by
    rw [State.modIce_ice, upd_same]
    exact .iceState k f _ hk (curtailFits_curtailOf _ _) h
  simp only [iceEffects]
  refine holdReports_moves _ _ _ ?_
  split
  · exact captureTrigger_moves _ _ _ hs (.offer _ hcurtail)
  · exact .offer _ hcurtail

theorem trackWindow_moves (k : Fin 8) (b : Fin 3) (i : Fin 96) (v : Verdict) (c gen : Nat) (hk : W.ice k) (hs : W.slots)
    (h : Moves W s t) : Moves W s (trackWindow k b i v c gen t) := by
  rw [trackWindow_eq]
  dsimp only
  split
  next hsame => exact .ice k _ hk (by rwa [State.modIce_ice, upd_same] at hsame) h
  next => exact iceEffects_moves k i _ _ _ _ hk hs h

theorem handOver_moves (i : Fin 96) (k : Fin 8) (v : Verdict) (c gen : Nat) (hk : W.ice k) (hs : W.slots)
    (h : Moves W s t) : Moves W s (handOver i k v c gen t) := by
  unfold handOver
  split
  · split
    · exact trackWindow_moves k _ i v c gen hk hs h
    · exact h
  · exact h

theorem overrideIce_moves (k : Fin 8) (hk : W.ice k) (h : Moves W s t) : Moves W s (overrideIce k t) := by
  simp only [overrideIce]
  split
  next hclear => exact .ice k _ hk hclear.symm h
  next => exact holdReports_moves _ _ _ (.offer _ (.iceState k _ _ hk (by simp [CurtailFits]) h))

theorem resetBaselines_moves (k : Fin 8) (hk : W.ice k) (h : Moves W s t) : Moves W s (resetBaselines k t) :=
  .ice k _ hk rfl h

theorem applyIce_moves (old : IceEntry) (k : Fin 8) (hk : W.ice k) (h : Moves W s t) :
    Moves W s (applyIce old k t) := by
  have hclamp : Moves W s (t.modIce k fun r => r.clampCounts t.tables.ice[k]) := .ice k _ hk rfl h
  simp only [applyIce]
  split
  · refine .ice k _ hk rfl ?_
    split
    next hiced =>
      have hwrite := Moves.iceState (W := W) k (fun r => r) (curtailOf t.tables.ice[k].level .iced) hk
        (by rw [hiced.1]; exact curtailFits_curtailOf _ _) hclamp
      rw [State.modIce_id] at hwrite
      exact .offer _ hwrite
    next => exact hclamp
  · exact h

/-! ### Bands -/

theorem levelChange_moves (i : Fin 96) (b : BandEntry) (old new net gen : Nat) (hs : W.slots) (h : Moves W s t) :
    Moves W s (levelChange i b old new net gen t) := by
  simp only [levelChange]
  refine recomputeWorst_moves _ ?_
  split
  · exact captureTrigger_moves _ _ _ hs (.offer _ h)
  · exact .offer _ h

theorem persistStep_moves (i : Fin 96) (b : BandEntry) (c : Nat) (d : Bool) (net gen : Nat) (hi : W.inst i)
    (hs : W.slots) (h : Moves W s t) : Moves W s (persistStep i b c d net gen t) := by
  simp only [persistStep]
  split
  · exact .inst i _ hi h
  · exact levelChange_moves _ _ _ _ _ _ hs (.inst i _ hi h)

theorem resetAlarm_moves (i : Fin 96) (hi : W.inst i) (h : Moves W s t) : Moves W s (resetAlarm i t) := by
  simp only [resetAlarm]
  split
  · exact recomputeWorst_moves _ (.offer _ (.inst i _ hi h))
  · exact .inst i _ hi h

/-- What closing the windows of channel `c` may write. -/
structure Footprint.Closes (W : Footprint) (c : Fin 24) : Prop where
  inst : ∀ i, instChannel i = c → W.inst i
  ice : ∀ k, W.ice k
  slots : W.slots
  items : W.items

theorem closeInstance_moves (i : Fin 96) (hW : W.Closes (instChannel i)) (h : Moves W s t) :
    Moves W s (closeInstance i t) := by
  have hi := hW.inst i rfl
  unfold closeInstance
  split
  · refine .inst i _ hi ?_
    split
    · split
      · exact report_moves _ hW.items (persistStep_moves _ _ _ _ _ _ hi hW.slots h)
      · exact h
    · exact handOver_moves _ _ _ _ _ (hW.ice _) hW.slots (reportTrack_moves _ hW.items h)
  · exact h

/-! ### The channel engine -/

theorem landingCheck_moves (ha : W.analysis) (h : Moves W s t) : Moves W s (landingCheck t) := by
  unfold landingCheck
  split
  · exact .offer _ (.analysis _ _ _ _ ha h)
  · exact h

theorem suspendCheck_moves (ha : W.analysis) (h : Moves W s t) : Moves W s (suspendCheck t) := by
  simp only [suspendCheck]
  split
  · split
    · exact .offer _ (.analysis _ _ _ _ ha h)
    · exact .analysis _ _ _ _ ha h
  · exact h

/-- What the end of a run, an adoption or the start of a run at channel `c` may write. -/
structure Footprint.Runs (W : Footprint) (c : Fin 24) : Prop where
  channel : W.channel c
  inst : ∀ i, instChannel i = c → W.inst i
  slots : W.slots
  analysis : W.analysis

theorem adopt_moves (c : Fin 24) (hW : W.Runs c) (h : Moves W s t) : Moves W s (adopt c t) := by
  have htrunc : Moves W s (if decide (t.channels[c].config.entry.decimation ≠ (t.tables.configOf c).entry.decimation)
      then captureTruncate c t else t) := by
    split
    · exact captureTruncate_moves c hW.slots h
    · exact h
  simp only [adopt]
  refine landingCheck_moves hW.analysis (recomputeWorst_moves _ (recomputeWorst_moves _ (.mapInsts _ ?_ (.channel c _
    hW.channel ?_ htrunc))))
  · exact fun i _ hn => if_neg fun e => hn (hW.inst i e)
  · intro x hx
    dsimp only
    split
    · simp
    · exact hx

theorem adoptIfPending_moves (c : Fin 24) (hW : W.Runs c) (h : Moves W s t) : Moves W s (adoptIfPending c t) := by
  unfold adoptIfPending
  split
  · exact adopt_moves c hW h
  · exact h

theorem endRun_moves (c : Fin 24) (hW : W.Runs c) (h : Moves W s t) : Moves W s (endRun c t) :=
  captureTruncate_moves c hW.slots (.mapInsts _ (fun i _ hn => if_neg fun e => hn (hW.inst i e))
    (.channel c _ hW.channel (fun _ _ => by simp) h))

/-- A channel change that leaves the ring alone. -/
theorem Moves.channelRing (c : Fin 24) (f : Channel → Channel) (hc : W.channel c) (hf : ∀ x, (f x).ring = x.ring)
    (h : Moves W s t) : Moves W s (t.modChannel c f) :=
  .channel c f hc (fun x hx => (hf x).symm ▸ hx) h

theorem startWindow_moves (c : Fin 24) (v : Bool) (hc : W.channel c) (hi : ∀ i, instChannel i = c → W.inst i)
    (h : Moves W s t) : Moves W s (startWindow c v t) :=
  .mapInsts _ (fun i _ hn => if_neg fun e => hn (hi i e.1)) (.channelRing c _ hc (fun _ => rfl) h)

theorem settleCheck_moves (c : Fin 24) (hc : W.channel c) (hi : ∀ i, instChannel i = c → W.inst i)
    (h : Moves W s t) : Moves W s (settleCheck c t) := by
  unfold settleCheck
  split
  · exact startWindow_moves c false hc hi h
  · exact h

theorem startRun_moves (c : Fin 24) (hW : W.Runs c) (h : Moves W s t) : Moves W s (startRun c t) :=
  settleCheck_moves c hW.channel hW.inst (.channelRing c _ hW.channel (fun _ => rfl) h)

theorem leaveRun_moves (c : Fin 24) (next : RunEnd) (hW : W.Runs c) (h : Moves W s t) :
    Moves W s (leaveRun c next t) := by
  have hend := adoptIfPending_moves c hW (endRun_moves c hW h)
  simp only [leaveRun]
  refine suspendCheck_moves hW.analysis ?_
  split
  · exact .channelRing c _ hW.channel (fun _ => rfl) hend
  · split
    · exact .channelRing c _ hW.channel (fun _ => rfl) hend
    · split
      · exact .channelRing c _ hW.channel (fun _ => rfl) hend
      · exact settleCheck_moves c hW.channel hW.inst (.channelRing c _ hW.channel (fun _ => rfl) hend)

theorem bindCheck_moves (c : Fin 24) (hc : W.channel c) (h : Moves W s t) : Moves W s (bindCheck c t) := by
  unfold bindCheck
  split
  · split
    · split
      · exact .channelRing c _ hc (fun _ => rfl) h
      · exact .channelRing c _ hc (fun _ => rfl) h
    · exact h
  · exact .channelRing c _ hc (fun _ => rfl) h

theorem adoptSettling_moves (c : Fin 24) (hW : W.Runs c) (h : Moves W s t) : Moves W s (adoptSettling c t) := by
  have hadopt := adopt_moves c hW h
  simp only [adoptSettling]
  split
  · refine settleCheck_moves c hW.channel hW.inst ?_
    split
    · exact .channelRing c _ hW.channel (fun _ => rfl) hadopt
    · exact hadopt
  · exact suspendCheck_moves hW.analysis (.channelRing c _ hW.channel (fun _ => rfl) (endRun_moves c hW hadopt))

theorem boundary_moves (c : Fin 24) (hW : W.Runs c) (h : Moves W s t) : Moves W s (boundary c t) := by
  have hadopt := adoptIfPending_moves c hW h
  simp only [boundary]
  split
  · exact leaveRun_moves c _ hW hadopt
  · split
    · exact leaveRun_moves c _ hW hadopt
    · exact startWindow_moves c _ hW.channel hW.inst hadopt

/-- What a sample taken by channel `c` may write. -/
structure Footprint.Samples (W : Footprint) (c : Fin 24) : Prop where
  runs : W.Runs c
  ice : ∀ k, W.ice k
  items : W.items

theorem Footprint.Samples.closes {c : Fin 24} (hW : W.Samples c) : W.Closes c :=
  ⟨hW.runs.inst, hW.ice, hW.runs.slots, hW.items⟩

@[simp] theorem instChannel_instId (c : Fin 24) (p : Fin 4) : instChannel (instId c p) = c :=
  Fin.ext (by simp only [instChannel, instId]; omega)

@[simp] theorem instPos_instId (c : Fin 24) (p : Fin 4) : instPos (instId c p) = p :=
  Fin.ext (by simp only [instPos, instId]; omega)

theorem closeWindow_moves (c : Fin 24) (hW : W.Samples c) (h : Moves W s t) : Moves W s (closeWindow c t) :=
  boundary_moves c hW.runs (h.forAll fun p _ => closeInstance_moves (instId c p) ((instChannel_instId c p).symm ▸ hW.closes))

theorem length_pushRing_le {ring : List Int} (y : Int) (h : ring.length ≤ 2048) : (pushRing ring y).length ≤ 2048 := by
  unfold pushRing
  split
  next hroom => simpa [Config.ringSize] using hroom
  next => simp; omega

theorem passSample_moves (c : Fin 24) (y : Int) (filled : Bool) (hW : W.Samples c) (h : Moves W s t) :
    Moves W s (passSample c y filled t) := by
  have hring : Moves W s (captureAppend c y (t.modChannel c fun ch => { ch with ring := pushRing ch.ring y })) :=
    captureAppend_moves c y hW.runs.slots (.channel c _ hW.runs.channel (fun _ => length_pushRing_le y) h)
  simp only [passSample]
  split
  · split
    · exact closeWindow_moves c hW (.channelRing c _ hW.runs.channel (fun _ => rfl)
        (.mapInsts _ (fun i _ hn => if_neg fun e => hn (hW.runs.inst i e)) hring))
    · exact .channelRing c _ hW.runs.channel (fun _ => rfl)
        (.mapInsts _ (fun i _ hn => if_neg fun e => hn (hW.runs.inst i e)) hring)
  · exact settleCheck_moves c hW.runs.channel hW.runs.inst (.channelRing c _ hW.runs.channel (fun _ => rfl)
      (.mapInsts _ (fun i _ hn => if_neg fun e => hn (hW.runs.inst i e)) hring))

theorem pushInput_moves (c : Fin 24) (x : Int × Bool) (hW : W.Samples c) (h : Moves W s t) :
    Moves W s (pushInput c x t) := by
  simp only [pushInput]
  split
  · split
    · exact passSample_moves c _ _ hW (.channelRing c _ hW.runs.channel (fun _ => rfl) h)
    · exact .channelRing c _ hW.runs.channel (fun _ => rfl) h
  · exact h

theorem pushInputs_moves (c : Fin 24) (xs : List (Int × Bool)) (hW : W.Samples c) (h : Moves W s t) :
    Moves W s (pushInputs c xs t) := Moves.foldl (fun _ x => pushInput_moves c x hW) h

theorem takeFrame_moves (c : Fin 24) (e : Fin 64) (payload : List Byte) (hW : W.Samples c) (hn : W.counts)
    (h : Moves W s t) : Moves W s (takeFrame c e payload t) := by
  have hcount : Moves W s (countTaken e t) := .counts _ hn h
  simp only [takeFrame]
  split
  · exact pushInputs_moves c _ hW (.channelRing c _ hW.runs.channel (fun _ => rfl) hcount)
  · exact hcount

theorem gapRule_moves (c : Fin 24) (missing : Nat) (hW : W.Samples c) (h : Moves W s t) :
    Moves W s (gapRule c missing t) := by
  unfold gapRule
  split
  · exact pushInputs_moves c _ hW h
  · exact leaveRun_moves c _ hW.runs h

theorem expectAfter_moves (c : Fin 24) (seq : Nat) (hc : W.channel c) (h : Moves W s t) :
    Moves W s (expectAfter c seq t) := by
  unfold expectAfter
  split
  · exact .channelRing c _ hc (fun _ => rfl) h
  · exact h

theorem checkFrame_moves (c : Fin 24) (e : Fin 64) (payload : List Byte) (hW : W.Samples c) (hn : W.counts)
    (h : Moves W s t) : Moves W s (checkFrame c e payload t) := by
  have hgap : ∀ m, Moves W s (gapRule c m (countGap e t)) := fun m => gapRule_moves c m hW (.counts _ hn h)
  simp only [checkFrame]
  split
  · split
    · exact takeFrame_moves c e payload hW hn h
    · exact h
  · split
    · exact h
    · split
      · split
        · exact takeFrame_moves c e payload hW hn h
        · split
          · exact hgap _
          · exact takeFrame_moves c e payload hW hn (hgap _)
      · exact expectAfter_moves c _ hW.runs.channel (hgap _)

theorem takeSample_moves (c : Fin 24) (e : Fin 64) (payload : List Byte) (hW : W.Samples c) (hn : W.counts)
    (h : Moves W s t) : Moves W s (takeSample c e payload t) := by
  have htimer : Moves W s (t.modChannel c fun ch => { ch with idleExpiry := some (t.now + Config.channelIdleMs) }) :=
    .channelRing c _ hW.runs.channel (fun _ => rfl) h
  simp only [takeSample]
  split
  · exact h
  · split
    · exact takeFrame_moves c e payload hW hn (startRun_moves c hW.runs h)
    · exact h
  · exact .channelRing c _ hW.runs.channel (fun _ => rfl) h
  all_goals
    split
    · exact htimer
    · exact checkFrame_moves c e payload hW hn htimer

theorem channelIdleExpires_moves (c : Fin 24) (hW : W.Runs c) (h : Moves W s t) :
    Moves W s (channelIdleExpires c t) := by
  unfold channelIdleExpires
  split
  · split
    · exact leaveRun_moves c _ hW h
    · exact leaveRun_moves c _ hW h
    · exact .channelRing c _ hW.channel (fun _ => rfl) h
    · exact h
    · exact h
  · exact h

theorem sourceChange_moves (old : Tables) (c : Fin 24) (hW : W.Runs c) (h : Moves W s t) :
    Moves W s (sourceChange old c t) := by
  simp only [sourceChange]
  split
  · split
    · exact leaveRun_moves c _ hW h
    · exact .channelRing c _ hW.channel (fun _ => rfl) h
  · split
    · exact h
    · exact .channelRing c _ hW.channel (fun _ => rfl) h
  · exact h

theorem takeGeneration_moves (c : Fin 24) (hW : W.Runs c) (h : Moves W s t) : Moves W s (takeGeneration c t) := by
  unfold takeGeneration
  split
  · exact bindCheck_moves c hW.channel (landingCheck_moves hW.analysis (.channelRing c _ hW.channel (fun _ => rfl) h))
  · split
    · exact h
    · exact adoptSettling_moves c hW h
    all_goals exact bindCheck_moves c hW.channel (adopt_moves c hW h)

theorem suspendChannel_moves (c : Fin 24) (hW : W.Runs c) (h : Moves W s t) : Moves W s (suspendChannel c t) := by
  unfold suspendChannel
  split
  · exact .channelRing c _ hW.channel (fun _ => rfl) h
  · exact leaveRun_moves c _ hW h
  · exact .channelRing c _ hW.channel (fun _ => rfl) h
  · exact h
  · exact h

theorem resumeChannel_moves (c : Fin 24) (hW : W.Runs c) (h : Moves W s t) : Moves W s (resumeChannel c t) := by
  unfold resumeChannel
  split
  · split
    · exact .channelRing c _ hW.channel (fun _ => rfl) h
    · exact startRun_moves c hW h
  · exact .channelRing c _ hW.channel (fun _ => rfl) h
  all_goals exact h

theorem restartChannel_moves (c : Fin 24) (hW : W.Runs c) (h : Moves W s t) : Moves W s (restartChannel c t) := by
  simp only [restartChannel]
  refine .channelRing c _ hW.channel (fun _ => rfl) (adoptIfPending_moves c hW ?_)
  split
  · exact endRun_moves c hW h
  · exact h

/-! ### The grid analyser -/

theorem syncUpdate_moves (p : Fin 2) (v : GridVerdict) (gen : Nat) (hp : W.point p) (h : Moves W s t) :
    Moves W s (syncUpdate p v gen t) := by
  simp only [syncUpdate]
  split
  · exact .offer _ (.point p _ hp h)
  · exact .point p _ hp h

theorem alarmUpdate_moves (p : Fin 2) (r : GridResult) (hp : W.point p) (h : Moves W s t) :
    Moves W s (alarmUpdate p r t) := by
  unfold alarmUpdate
  split
  · exact h
  · dsimp only
    split
    · exact .point p _ hp h
    · exact .offer _ (.point p _ hp h)

theorem startBlock_moves (p : Fin 2) (hp : W.point p) (h : Moves W s t) : Moves W s (startBlock p t) := .point p _ hp h

theorem discardBlock_moves (p : Fin 2) (hp : W.point p) (ha : W.analysis) (h : Moves W s t) :
    Moves W s (discardBlock p t) := by
  unfold discardBlock
  split
  · exact suspendCheck_moves ha (.point p _ hp h)
  · exact startBlock_moves p hp (.point p _ hp h)

/-- What a GRID frame at point `p` may write. -/
structure Footprint.Blocks (W : Footprint) (p : Fin 2) : Prop where
  point : W.point p
  items : W.items
  analysis : W.analysis

/-- How a completed block ends once its result is known (R112, R122). -/
def finishBlock (p : Fin 2) (r : GridResult) (t : State) : State :=
  let t := t.modPoint p fun x => { x with lastResult := some r }
  if t.points[p].marked then suspendCheck (t.modPoint p (GridPoint.rest .suspended)) else startBlock p t

theorem completeBlock_eq (p : Fin 2) (l : Latch) (t : State) : completeBlock p l t =
    (let r := blockResult l t.points[p].acc t.points[p].detectors t.now
     let u := alarmUpdate p r (syncUpdate p r.verdict l.gen t)
     finishBlock p r (if (r.evaluation.map GridEvaluation.exceeds) = some true then reportGrid p u else u)) := rfl

theorem finishBlock_moves (p : Fin 2) (r : GridResult) (hp : W.point p) (ha : W.analysis) (h : Moves W s t) :
    Moves W s (finishBlock p r t) := by
  have hresult : Moves W s (t.modPoint p fun x => { x with lastResult := some r }) := .point p _ hp h
  simp only [finishBlock]
  split
  · exact suspendCheck_moves ha (.point p _ hp hresult)
  · exact startBlock_moves p hp hresult

theorem completeBlock_moves (p : Fin 2) (l : Latch) (hW : W.Blocks p) (h : Moves W s t) :
    Moves W s (completeBlock p l t) := by
  rw [completeBlock_eq]
  have halarm := fun r : GridResult => alarmUpdate_moves p r hW.point (syncUpdate_moves p r.verdict l.gen hW.point h)
  refine finishBlock_moves p _ hW.point hW.analysis ?_
  split
  · exact report_moves _ hW.items (halarm _)
  · exact halarm _

theorem pushTriple_moves (p : Fin 2) (x : Triple) (hW : W.Blocks p) (h : Moves W s t) :
    Moves W s (pushTriple p x t) := by
  unfold pushTriple
  split
  · split
    · exact h
    · dsimp only
      split
      · exact completeBlock_moves p _ hW (.point p _ hW.point h)
      · exact .point p _ hW.point h
  · exact h

theorem takeTriples_moves (p : Fin 2) (e : Fin 64) (payload : List Byte) (hW : W.Blocks p) (hn : W.counts)
    (h : Moves W s t) : Moves W s (takeTriples p e payload t) :=
  Moves.foldl (fun _ x => pushTriple_moves p x hW) (.counts _ hn (.point p _ hW.point h))

theorem checkGrid_moves (p : Fin 2) (e : Fin 64) (payload : List Byte) (hW : W.Blocks p) (hn : W.counts)
    (h : Moves W s t) : Moves W s (checkGrid p e payload t) := by
  have hgap : Moves W s (discardBlock p (countGap e t)) :=
    discardBlock_moves p hW.point hW.analysis (.counts _ hn h)
  simp only [checkGrid]
  split
  · exact h
  · split
    · split
      · exact takeTriples_moves p e payload hW hn h
      · split
        · exact takeTriples_moves p e payload hW hn hgap
        · exact hgap
    · split
      · exact .point p _ hW.point hgap
      · exact hgap

theorem takeGrid_moves (p : Fin 2) (e : Fin 64) (payload : List Byte) (hW : W.Blocks p) (hn : W.counts)
    (h : Moves W s t) : Moves W s (takeGrid p e payload t) := by
  simp only [takeGrid]
  split
  · exact h
  · exact h
  · split
    · exact takeTriples_moves p e payload hW hn (startBlock_moves p hW.point (.point p _ hW.point h))
    · exact h
  · split
    · exact .point p _ hW.point h
    · exact checkGrid_moves p e payload hW hn (.point p _ hW.point h)

theorem gridIdleExpires_moves (p : Fin 2) (hp : W.point p) (ha : W.analysis) (h : Moves W s t) :
    Moves W s (gridIdleExpires p t) := by
  unfold gridIdleExpires
  split
  · exact suspendCheck_moves ha (.point p _ hp h)
  · exact h

theorem applyGridEntry_moves (old : GridEntry) (p : Fin 2) (hp : W.point p) (h : Moves W s t) :
    Moves W s (applyGridEntry old p t) := by
  simp only [applyGridEntry]
  split
  · split
    · exact .offer _ (.point p _ hp h)
    · exact .point p _ hp h
  · split
    · exact .point p _ hp h
    · split
      · exact .point p _ hp h
      · exact h

theorem applyGridBinding_moves (old : Tables) (p : Fin 2) (hp : W.point p) (ha : W.analysis) (h : Moves W s t) :
    Moves W s (applyGridBinding old p t) := by
  have hpoint : ∀ f, Moves W s (t.modPoint p f) := fun f => .point p f hp h
  unfold applyGridBinding
  extract_lets feed was is same
  split
  · exact suspendCheck_moves ha (hpoint _)
  · split
    · exact hpoint _
    · split
      · split
        · exact suspendCheck_moves ha (hpoint _)
        all_goals exact hpoint _
      · exact h

theorem suspendPoint_moves (p : Fin 2) (hp : W.point p) (h : Moves W s t) : Moves W s (suspendPoint p t) := by
  unfold suspendPoint
  split
  · exact .point p _ hp h
  · exact .point p _ hp h
  all_goals exact h

theorem resumePoint_moves (p : Fin 2) (hp : W.point p) (h : Moves W s t) : Moves W s (resumePoint p t) := by
  unfold resumePoint
  split
  · exact .point p _ hp h
  · exact .point p _ hp h
  all_goals exact h

/-! ### Apply, Suspend and Resume -/

theorem applyTurbine_moves (old : Tables) (k : Fin 8) (ht : W.turbines)
    (hi : ∀ i, t.turbineOf (instChannel i) = k → W.inst i) (h : Moves W s t) : Moves W s (applyTurbine old k t) := by
  have hservice : ∀ (a b : TurbineEntry) (n : Nat) (x : Turbine), (serviceChange a b n x).curtail = x.curtail := by
    intro a b n x
    unfold serviceChange
    split
    · rfl
    · split <;> rfl
  simp only [applyTurbine]
  refine .turbine k _ ht (hservice _ _ _) ?_
  split
  · exact eachWindow_moves k _ hi (.turbine k _ ht (fun _ => rfl) h)
  · exact h

theorem suspendAnalysis_moves (hW : ∀ c, W.Runs c) (hp : ∀ p, W.point p) (ha : W.analysis) (h : Moves W s t) :
    Moves W s (suspendAnalysis t) := by
  unfold suspendAnalysis
  split
  · exact suspendCheck_moves ha (Moves.forAll (fun p _ => suspendPoint_moves p (hp p))
      (Moves.forAll (fun c _ => suspendChannel_moves c (hW c)) (.analysis _ _ _ _ ha h)))
  · exact h

theorem resumeAnalysis_moves (hW : ∀ c, W.Runs c) (hp : ∀ p, W.point p) (ha : W.analysis) (h : Moves W s t) :
    Moves W s (resumeAnalysis t) := by
  unfold resumeAnalysis
  split
  · exact h
  · exact Moves.forAll (fun p _ => resumePoint_moves p (hp p))
      (Moves.forAll (fun c _ => resumeChannel_moves c (hW c)) (.analysis _ _ _ _ ha h))

/-- A footprint that holds everything. -/
def Footprint.all : Footprint :=
  { turbines := True, channel := fun _ => True, inst := fun _ => True, ice := fun _ => True, point := fun _ => True,
    items := True, slots := True, counts := True, analysis := True, day := True }

theorem Footprint.all_runs (c : Fin 24) : Footprint.all.Runs c := ⟨trivial, fun _ _ => trivial, trivial, trivial⟩
theorem Footprint.all_samples (c : Fin 24) : Footprint.all.Samples c := ⟨all_runs c, fun _ => trivial, trivial⟩
theorem Footprint.all_blocks (p : Fin 2) : Footprint.all.Blocks p := ⟨trivial, trivial, trivial⟩

end
end Sys2Proof.Machine
end

section
/-! PROOFS. What follows from `Moves`: the parts outside a footprint stand, and every work of the analysis blocks keeps the
form of the notice queue, the deferral bounds, the curtail requests and the capture bounds. -/

namespace Sys2Proof.Machine

/-! ### Table updates read back -/

theorem upd_get {α : Type} {n : Nat} (v : Vector α n) (i j : Fin n) (f : α → α) :
    (upd v i f)[j] = if j = i then f v[j] else v[j] := by
  split
  next h => rw [h, upd_same]
  next h => exact upd_other v i j f h

theorem upd_congr {α : Type} {n : Nat} {v : Vector α n} {i : Fin n} {f g : α → α} (h : f v[i] = g v[i]) :
    upd v i f = upd v i g := by
  simp only [upd, h]

theorem upd_id {α : Type} {n : Nat} {v : Vector α n} {i : Fin n} {f : α → α} (h : f v[i] = v[i]) : upd v i f = v := by
  simp only [upd, h]
  exact Vector.set_getElem_self i.2

theorem upd_outside {α : Type} {n : Nat} {P : Fin n → Prop} {v : Vector α n} {i j : Fin n} {f : α → α} (hi : P i)
    (hj : ¬ P j) : (upd v i f)[j] = v[j] :=
  upd_other v i j f fun e => hj (e ▸ hi)

theorem vector_ext_fin {α : Type} {n : Nat} {v w : Vector α n} (h : ∀ i : Fin n, v[i] = w[i]) : v = w :=
  Vector.ext fun i hi => h ⟨i, hi⟩

/-! ### The two operations that write by a test -/

/-- An offer writes the notice queue and the error record (R171 to R175). -/
theorem offer_eq (o : Offer) (s : State) : ∃ q e, offer o s = { s with notices := q, errors := e } := by
  unfold offer
  split
  · exact ⟨_, _, rfl⟩
  · exact ⟨_, _, rfl⟩

/-- The ice monitor writes a curtail request with the advisory it starts (R12, R14). -/
theorem writeCurtail_eq (k : Fin 8) (v : Curtail) (s : State) :
    ∃ a, writeCurtail k v s = s.modTurbine k fun x => { x with curtail := v, advisory := a } := by
  unfold writeCurtail
  split
  next h =>
    refine ⟨s.turbines[k].advisory, ?_⟩
    have hsame : (upd s.turbines k fun x => { x with curtail := v, advisory := s.turbines[k].advisory }) = s.turbines :=
      upd_id (by rw [← h])
    rw [State.modTurbine, hsame]
  next =>
    exact ⟨if s.tables.turbines[k].inService then s.turbines[k].advisory.change v s.now else s.turbines[k].advisory,
      congrArg (fun v => { s with turbines := v }) (upd_congr rfl)⟩

section
variable {W : Footprint} {s t : State}

/-! ### What stands -/

theorem Moves.shell (h : Moves W s t) : t.shell = s.shell := by
  induction h with
  | refl => rfl
  | offer o _ ih => rw [offer_shell, ih]
  | iceState k f v _ _ _ ih => rw [writeCurtail_shell, State.modIce_shell, ih]
  | _ => assumption

/-- A part of the state that only the offers and the curtail writes could touch by a test, and that no other move of the
footprint touches, stands. -/
theorem Moves.channel_stands (h : Moves W s t) {c : Fin 24} (hc : ¬ W.channel c) : t.channels[c] = s.channels[c] := by
  induction h with
  | refl => rfl
  | offer o _ ih => obtain ⟨q, e, heq⟩ := offer_eq o _; rw [heq]; exact ih
  | iceState k f v _ _ _ ih => obtain ⟨a, heq⟩ := writeCurtail_eq k v (State.modIce _ k f); rw [heq]; exact ih
  | channel c' f hw _ _ ih => exact (upd_outside hw hc).trans ih
  | _ => assumption

theorem Moves.inst_stands (h : Moves W s t) {i : Fin 96} (hi : ¬ W.inst i) : t.insts[i] = s.insts[i] := by
  induction h with
  | refl => rfl
  | offer o _ ih => obtain ⟨q, e, heq⟩ := offer_eq o _; rw [heq]; exact ih
  | iceState k f v _ _ _ ih => obtain ⟨a, heq⟩ := writeCurtail_eq k v (State.modIce _ k f); rw [heq]; exact ih
  | insts v hv _ ih => exact (hv i hi).trans ih
  | _ => assumption

theorem Moves.ice_stands (h : Moves W s t) {k : Fin 8} (hk : ¬ W.ice k) : t.ice[k] = s.ice[k] := by
  induction h with
  | refl => rfl
  | offer o _ ih => obtain ⟨q, e, heq⟩ := offer_eq o _; rw [heq]; exact ih
  | ice k' f hw _ _ ih => exact (upd_outside hw hk).trans ih
  | iceState k' f v hw _ _ ih =>
    obtain ⟨a, heq⟩ := writeCurtail_eq k' v (State.modIce _ k' f)
    rw [heq]
    exact (upd_outside hw hk).trans ih
  | _ => assumption

theorem Moves.point_stands (h : Moves W s t) {p : Fin 2} (hp : ¬ W.point p) : t.points[p] = s.points[p] := by
  induction h with
  | refl => rfl
  | offer o _ ih => obtain ⟨q, e, heq⟩ := offer_eq o _; rw [heq]; exact ih
  | iceState k f v _ _ _ ih => obtain ⟨a, heq⟩ := writeCurtail_eq k v (State.modIce _ k f); rw [heq]; exact ih
  | point p' f hw _ ih => exact (upd_outside hw hp).trans ih
  | _ => assumption

theorem Moves.items_stand (h : Moves W s t) (hm : ¬ W.items) : t.items = s.items := by
  induction h with
  | refl => rfl
  | offer o _ ih => obtain ⟨q, e, heq⟩ := offer_eq o _; rw [heq]; exact ih
  | iceState k f v _ _ _ ih => obtain ⟨a, heq⟩ := writeCurtail_eq k v (State.modIce _ k f); rw [heq]; exact ih
  | item n f hw => exact absurd hw hm
  | _ => assumption

theorem Moves.slots_stand (h : Moves W s t) (hs : ¬ W.slots) : t.slots = s.slots := by
  induction h with
  | refl => rfl
  | offer o _ ih => obtain ⟨q, e, heq⟩ := offer_eq o _; rw [heq]; exact ih
  | iceState k f v _ _ _ ih => obtain ⟨a, heq⟩ := writeCurtail_eq k v (State.modIce _ k f); rw [heq]; exact ih
  | slot k f hw => exact absurd hw hs
  | capture c tr o g hw => exact absurd hw hs
  | _ => assumption

theorem Moves.counts_stand (h : Moves W s t) (hn : ¬ W.counts) : t.counts = s.counts := by
  induction h with
  | refl => rfl
  | offer o _ ih => obtain ⟨q, e, heq⟩ := offer_eq o _; rw [heq]; exact ih
  | iceState k f v _ _ _ ih => obtain ⟨a, heq⟩ := writeCurtail_eq k v (State.modIce _ k f); rw [heq]; exact ih
  | counts v hw => exact absurd hw hn
  | _ => assumption

theorem Moves.day_stands (h : Moves W s t) (hd : ¬ W.day) : t.scheduleDay = s.scheduleDay := by
  induction h with
  | refl => rfl
  | offer o _ ih => obtain ⟨q, e, heq⟩ := offer_eq o _; rw [heq]; exact ih
  | iceState k f v _ _ _ ih => obtain ⟨a, heq⟩ := writeCurtail_eq k v (State.modIce _ k f); rw [heq]; exact ih
  | day d hw => exact absurd hw hd
  | _ => assumption

theorem Moves.analysis_stands (h : Moves W s t) (ha : ¬ W.analysis) :
    t.landing = s.landing ∧ t.analysis = s.analysis ∧ t.channelReport = s.channelReport ∧
      t.gridReport = s.gridReport := by
  induction h with
  | refl => exact ⟨rfl, rfl, rfl, rfl⟩
  | offer o _ ih => obtain ⟨q, e, heq⟩ := offer_eq o _; rw [heq]; exact ih
  | iceState k f v _ _ _ ih => obtain ⟨a, heq⟩ := writeCurtail_eq k v (State.modIce _ k f); rw [heq]; exact ih
  | analysis l st cr gr hw => exact absurd hw ha
  | _ => assumption

/-- A turbine's context, its worst level apart, is written by the turbine context unit and the ice monitor alone. -/
theorem Moves.turbine_stands (h : Moves W s t) {k : Fin 8} (ht : ¬ W.turbines) (hk : ¬ W.ice k) :
    { t.turbines[k] with worst := 0 } = { s.turbines[k] with worst := 0 } := by
  induction h with
  | refl => rfl
  | offer o _ ih => obtain ⟨q, e, heq⟩ := offer_eq o _; rw [heq]; exact ih
  | worst k' n _ ih =>
    rw [State.modTurbine_turbines, upd_get]
    split
    · exact ih
    · exact ih
  | turbine k' f hw => exact absurd hw ht
  | iceState k' f v hw _ _ ih =>
    obtain ⟨a, heq⟩ := writeCurtail_eq k' v (State.modIce _ k' f)
    rw [heq, State.modTurbine_turbines, upd_outside hw hk]
    exact ih
  | _ => assumption

/-- A curtail request is written by the ice monitor alone (R12). -/
theorem Moves.curtail_stands (h : Moves W s t) {k : Fin 8} (hk : ¬ W.ice k) :
    t.turbines[k].curtail = s.turbines[k].curtail := by
  induction h with
  | refl => rfl
  | offer o _ ih => obtain ⟨q, e, heq⟩ := offer_eq o _; rw [heq]; exact ih
  | worst k' n _ ih =>
    rw [State.modTurbine_turbines, upd_get]
    split
    · exact ih
    · exact ih
  | turbine k' f _ hf _ ih =>
    rw [State.modTurbine_turbines, upd_get]
    split
    · exact (hf _).trans ih
    · exact ih
  | iceState k' f v hw _ _ ih =>
    obtain ⟨a, heq⟩ := writeCurtail_eq k' v (State.modIce _ k' f)
    rw [heq, State.modTurbine_turbines, upd_outside hw hk]
    exact ih
  | _ => assumption

/-! ### Deferral bounds and curtail requests -/

theorem MaintItem.Sound.congr {x y : MaintItem} (h : x.Sound)
    (hxy : y.deferrals = x.deferrals ∧ y.dueDay = x.dueDay ∧ y.baseDue = x.baseDue) : y.Sound := by
  obtain ⟨hdef, hdue, hbase⟩ := hxy
  unfold MaintItem.Sound
  rw [hdef, hdue, hbase]
  exact h

theorem Moves.keeps_deferralBounds (h : Moves W s t) (hs : ∀ n : Fin 96, s.items[n].Sound) (n : Fin 96) :
    t.items[n].Sound := by
  induction h with
  | refl => exact hs n
  | offer o _ ih => obtain ⟨q, e, heq⟩ := offer_eq o _; rw [heq]; exact ih
  | iceState k f v _ _ _ ih => obtain ⟨a, heq⟩ := writeCurtail_eq k v (State.modIce _ k f); rw [heq]; exact ih
  | item m f _ hf _ ih =>
    rw [State.modItem_items, upd_get]
    split
    · exact ih.congr (hf _)
    · exact ih
  | _ => assumption

theorem Moves.keeps_curtailSound (h : Moves W s t) (hs : s.CurtailSound) : t.CurtailSound := by
  induction h with
  | refl => exact hs
  | offer o _ ih => obtain ⟨q, e, heq⟩ := offer_eq o _; rw [heq]; exact ih
  | worst k n _ ih =>
    intro j
    rw [State.modTurbine_turbines, upd_get]
    split
    · exact ih j
    · exact ih j
  | turbine k f _ hf _ ih =>
    intro j
    rw [State.modTurbine_turbines, upd_get]
    split
    · rw [hf]; exact ih j
    · exact ih j
  | ice k f _ hf _ ih =>
    intro j
    rw [State.modIce_ice, upd_get]
    split
    next hj => subst hj; rw [hf]; exact ih j
    next => exact ih j
  | iceState k f v _ hv _ ih =>
    obtain ⟨a, heq⟩ := writeCurtail_eq k v (State.modIce _ k f)
    intro j
    rw [heq, State.modTurbine_turbines, State.modTurbine_ice, State.modIce_ice, upd_get, upd_get]
    split
    next hj => subst hj; exact hv
    next => exact ih j
  | _ => assumption

/-! ### Capture bounds -/

theorem captureRefused_none {c : Fin 24} (h : s.captureRefused c = none) :
    (∀ k : Fin 2, ¬ (s.slots[k].state = .filling ∧ s.slots[k].channel = c)) ∧ s.slots[s.freeSlot].state = .free := by
  unfold State.captureRefused at h
  split at h
  · cases h
  · split at h
    · cases h
    next hfill =>
      split at h
      · cases h
      next hfree =>
        simp only [Bool.or_eq_true, fillingFor_iff, not_or] at hfill
        refine ⟨fun k => ?_, ?_⟩
        · match k with
          | 0 => exact hfill.1
          | 1 => exact hfill.2
        · unfold State.freeSlot
          split
          next h0 => exact h0
          next h0 => by_contra h1; exact hfree ⟨h0, h1⟩

/-- Two slots that do not fill for one channel. -/
def SlotsApart (v : Vector Slot 2) : Prop :=
  ∀ j k : Fin 2, j ≠ k → v[j].state = .filling → v[k].state = .filling → v[j].channel ≠ v[k].channel

theorem slotsApart_iff (v : Vector Slot 2) : SlotsApart v ↔
    ¬ (v[(0 : Fin 2)].state = .filling ∧ v[(1 : Fin 2)].state = .filling ∧
      v[(0 : Fin 2)].channel = v[(1 : Fin 2)].channel) := by
  constructor
  · rintro h ⟨h0, h1, heq⟩
    exact h 0 1 (by decide) h0 h1 heq
  · intro h j k hjk hj hk heq
    match j, k with
    | 0, 0 => exact hjk rfl
    | 1, 1 => exact hjk rfl
    | 0, 1 => exact h ⟨hj, hk, heq⟩
    | 1, 0 => exact h ⟨hk, hj, heq.symm⟩

theorem State.captureSound_iff : s.CaptureSound ↔
    (∀ c : Fin 24, s.channels[c].ring.length ≤ 2048) ∧ (∀ k : Fin 2, s.slots[k].Sound) ∧ SlotsApart s.slots := by
  rw [slotsApart_iff]; rfl

/-- A slot update that starts no filling keeps the slots apart. -/
theorem SlotsApart.upd {v : Vector Slot 2} (h : SlotsApart v) {k : Fin 2} {f : Slot → Slot}
    (hf : (f v[k]).state = .filling → v[k].state = .filling ∧ (f v[k]).channel = v[k].channel) :
    SlotsApart (upd v k f) := by
  have hold : ∀ j : Fin 2, (Sys2Proof.upd v k f)[j].state = .filling →
      v[j].state = .filling ∧ (Sys2Proof.upd v k f)[j].channel = v[j].channel := by
    intro j
    rw [upd_get]
    split
    next hj => subst hj; exact hf
    next => exact fun hj => ⟨hj, rfl⟩
  intro i j hij hi hj
  obtain ⟨hi', hic⟩ := hold i hi
  obtain ⟨hj', hjc⟩ := hold j hj
  rw [hic, hjc]
  exact h i j hij hi' hj'

/-- A capture started in a free slot for a channel that fills no slot keeps the slots apart. -/
theorem SlotsApart.start {v : Vector Slot 2} (h : SlotsApart v) {k : Fin 2} {x : Slot}
    (hx : ∀ j : Fin 2, ¬ (v[j].state = .filling ∧ v[j].channel = x.channel)) :
    SlotsApart (Sys2Proof.upd v k fun _ => x) := by
  intro i j hij
  rw [upd_get, upd_get]
  split
  next hi =>
    rw [if_neg fun hj => hij (hi.trans hj.symm)]
    exact fun _ hfill heq => hx j ⟨hfill, heq.symm⟩
  next =>
    split
    · exact fun hfill _ heq => hx i ⟨hfill, heq⟩
    · exact h i j hij

theorem captureStart_keeps {c : Fin 24} (trigger : Trigger) (origin : Option (Fin 96)) (gen : Nat)
    (hc : s.captureRefused c = none) (h : s.CaptureSound) : (captureStart c trigger origin gen s).CaptureSound := by
  rw [State.captureSound_iff] at h ⊢
  obtain ⟨hring, hslot, hapart⟩ := h
  refine ⟨hring, fun k => ?_, hapart.start (captureRefused_none hc).1⟩
  simp only [captureStart, State.modSlot_slots, upd_get]
  split
  · exact fun _ => ⟨hring c, Nat.zero_le _, fun _ => by norm_num, rfl⟩
  · exact hslot k

theorem Moves.keeps_captureSound (h : Moves W s t) (hs : s.CaptureSound) : t.CaptureSound := by
  induction h with
  | refl => exact hs
  | offer o _ ih => obtain ⟨q, e, heq⟩ := offer_eq o _; rw [heq]; exact ih
  | iceState k f v _ _ _ ih => obtain ⟨a, heq⟩ := writeCurtail_eq k v (State.modIce _ k f); rw [heq]; exact ih
  | channel c f _ hf _ ih =>
    obtain ⟨hring, hslot, hapart⟩ := ih
    refine ⟨fun d => ?_, hslot, hapart⟩
    rw [State.modChannel_channels, upd_get]
    split
    · exact hf _ (hring d)
    · exact hring d
  | slot k f _ hf _ ih =>
    rw [State.captureSound_iff] at ih ⊢
    obtain ⟨hring, hslot, hapart⟩ := ih
    refine ⟨hring, fun j => ?_, hapart.upd hf.2⟩
    rw [State.modSlot_slots, upd_get]
    split
    next hj => subst hj; exact hf.1 (hslot j)
    next => exact hslot j
  | capture c tr o g _ hc _ ih => exact captureStart_keeps tr o g hc ih
  | _ => assumption

end
end Sys2Proof.Machine
end

section
/-! PROOFS. The notice queue (chapter 8): where a notice is placed, which number comes next, what an overflow displaces, and
that an offer and every removal keep the queue's form. -/

namespace Sys2Proof.Machine

/-! ### Placing (R174) -/

/-- In an ordered queue a notice stands behind all of its own or a more urgent priority, before all less urgent ones. -/
theorem placeNotice_eq (n : Notice) {q : List Notice} (h : q.Pairwise fun a b => a.offer.priority ≤ b.offer.priority) :
    placeNotice n q = q.filter (fun x => x.offer.priority ≤ n.offer.priority) ++
      n :: q.filter (fun x => n.offer.priority < x.offer.priority) := by
  induction q with
  | nil => rfl
  | cons x q ih =>
    obtain ⟨hx, hq⟩ := List.pairwise_cons.mp h
    rw [placeNotice]
    split
    next hle => simp [ih hq, hle, Nat.not_lt.mpr hle]
    next hlt =>
      have hall : ∀ y ∈ q, n.offer.priority < y.offer.priority := fun y hy => lt_of_lt_of_le (by omega) (hx y hy)
      have hnone : q.filter (fun y => y.offer.priority ≤ n.offer.priority) = [] :=
        List.filter_eq_nil_iff.mpr fun y hy => by simpa using hall y hy
      have hkept : q.filter (fun y => n.offer.priority < y.offer.priority) = q :=
        List.filter_eq_self.mpr fun y hy => by simpa using hall y hy
      simp [hlt, hnone, hkept, Nat.not_le.mp hlt]

theorem placeNotice_perm (n : Notice) (q : List Notice) : (placeNotice n q).Perm (n :: q) := by
  induction q with
  | nil => rfl
  | cons x q ih =>
    rw [placeNotice]
    split
    · exact (ih.cons x).trans (.swap n x q)
    · rfl

theorem placeNotice_ordered (n : Notice) {q : List Notice}
    (h : q.Pairwise fun a b => a.offer.priority ≤ b.offer.priority) :
    (placeNotice n q).Pairwise fun a b => a.offer.priority ≤ b.offer.priority := by
  rw [placeNotice_eq n h, List.pairwise_append, List.pairwise_cons]
  refine ⟨h.filter _, ⟨fun b hb => ?_, h.filter _⟩, fun a ha b hb => ?_⟩
  · exact (of_decide_eq_true (List.mem_filter.mp hb).2).le
  · have hle : a.offer.priority ≤ n.offer.priority := of_decide_eq_true (List.mem_filter.mp ha).2
    rcases List.mem_cons.mp hb with rfl | hb
    · exact hle
    · exact hle.trans (of_decide_eq_true (List.mem_filter.mp hb).2).le

/-! ### Numbering (R172) -/

/-- The search passes `j` numbers, all of them in use, and stops at a free one unless its fuel is spent. -/
theorem nextFree_spec (q : List Notice) (fuel : Nat) {n : Nat} (hn : n < 65536) :
    ∃ j ≤ fuel, nextFree q fuel n = (n + j) % 65536 ∧ (∀ i < j, (n + i) % 65536 ∈ q.map Notice.number) ∧
      (j < fuel → nextFree q fuel n ∉ q.map Notice.number) := by
  induction fuel generalizing n with
  | zero => exact ⟨0, le_rfl, by simp [nextFree, Nat.mod_eq_of_lt hn], by simp, by simp⟩
  | succ fuel ih =>
    rw [nextFree]
    split
    next hused =>
      have hmem : n ∈ q.map Notice.number := by simpa using hused
      obtain ⟨j, hj, hval, hpass, hfree⟩ := ih (Nat.mod_lt (n + 1) (by norm_num))
      refine ⟨j + 1, by omega, ?_, fun i hi => ?_, fun h => hfree (by omega)⟩
      · rw [hval, Nat.mod_add_mod]; congr 1; omega
      · cases i with
        | zero => rwa [Nat.add_zero, Nat.mod_eq_of_lt hn]
        | succ i =>
          have := hpass i (by omega)
          rw [Nat.mod_add_mod] at this
          rwa [show n + (i + 1) = n + 1 + i by omega]
    next hfree =>
      have hmem : n ∉ q.map Notice.number := by simpa using hfree
      exact ⟨0, Nat.zero_le _, by simp [Nat.mod_eq_of_lt hn], by simp, fun _ => hmem⟩

/-- A queue of at most 48 notices leaves a free number within the search: the next number is below 65536, unused, and
another than the one just taken. -/
theorem advanceNumber_free {q : List Notice} {n : Nat} (hq : q.length ≤ 48) :
    advanceNumber q n < 65536 ∧ advanceNumber q n ∉ q.map Notice.number ∧ advanceNumber q n ≠ n := by
  obtain ⟨j, hj, hval, hpass, hfree⟩ := nextFree_spec q (q.length + 1) (Nat.mod_lt (n + 1) (by norm_num : 0 < 65536))
  have hlt : j < q.length + 1 := by
    by_contra hge
    have hnodup : ((List.range j).map fun i => ((n + 1) % 65536 + i) % 65536).Nodup := by
      refine List.nodup_range.map_on fun a ha b hb hab => ?_
      rw [List.mem_range] at ha hb
      omega
    have hsub : ((List.range j).map fun i => ((n + 1) % 65536 + i) % 65536) ⊆ q.map Notice.number := by
      intro x hx
      obtain ⟨i, hi, rfl⟩ := List.mem_map.mp hx
      exact hpass i (List.mem_range.mp hi)
    have := (hnodup.subperm hsub).length_le
    simp only [List.length_map, List.length_range] at this
    omega
  unfold advanceNumber
  refine ⟨hval ▸ Nat.mod_lt _ (by norm_num), hfree hlt, ?_⟩
  rw [hval]
  omega

/-! ### An offer keeps the queue's form -/

/-- A new notice placed among some of those queued. -/
theorem NoticeQueue.Sound.place {q : NoticeQueue} (h : q.Sound) {n : Notice} (hn : n.number = q.next) {l : List Notice}
    (hl : l.Sublist q.queue) (hroom : l.length < 48) (hsending : ∀ k, q.sending = some k → k ∈ l.map Notice.number) :
    NoticeQueue.Sound { q with queue := placeNotice n l, next := advanceNumber q.queue q.next } := by
  obtain ⟨hlen, hord, hnodup, hbelow, hnext, hunused, -⟩ := h
  obtain ⟨hfresh, hnew, hother⟩ := advanceNumber_free (n := q.next) hlen
  have hperm := placeNotice_perm n l
  have hmem : ∀ x, x ∈ placeNotice n l → x = n ∨ x ∈ q.queue := fun x hx =>
    (List.mem_cons.mp (hperm.mem_iff.mp hx)).imp_right fun h => hl.subset h
  refine ⟨?_, placeNotice_ordered n (hord.sublist hl), ?_, fun x hx => ?_, hfresh, fun x hx => ?_, fun k hk => ?_⟩
  · rw [hperm.length_eq, List.length_cons]; exact hroom
  · refine (hperm.map _).nodup_iff.mpr ?_
    rw [List.map_cons, List.nodup_cons]
    refine ⟨fun hin => ?_, hnodup.sublist (hl.map _)⟩
    obtain ⟨x, hx, hxn⟩ := List.mem_map.mp hin
    exact hunused x (hl.subset hx) (hxn.trans hn)
  · rcases hmem x hx with rfl | hx
    · exact hn ▸ hnext
    · exact hbelow x hx
  · rcases hmem x hx with rfl | hx
    · exact hn ▸ hother.symm
    · exact fun heq => hnew (List.mem_map.mpr ⟨x, hx, heq⟩)
  · exact (hperm.map _).mem_iff.mpr (List.mem_cons_of_mem _ (hsending k hk))

/-- A number displaced belongs to a queued notice that is not in transmission and less urgent (R175). -/
theorem NoticeQueue.displaced_spec {q : NoticeQueue} {priority k : Nat} (h : q.displaced priority = some k) :
    ∃ x ∈ q.queue, x.number = k ∧ q.sending ≠ some k ∧ priority < x.offer.priority := by
  obtain ⟨x, hx, rfl⟩ := Option.map_eq_some_iff.mp h
  obtain ⟨hmem, hcand⟩ := List.mem_filter.mp (List.mem_of_getLast? hx)
  simp only [NoticeQueue.candidate, Bool.and_eq_true, decide_eq_true_eq] at hcand
  exact ⟨x, hmem, rfl, hcand⟩

theorem offer_keeps_sound (o : Offer) {s : State} (h : s.notices.Sound) : (offer o s).notices.Sound := by
  unfold offer
  split
  · exact h
  · simp only [NoticeQueue.insert]
    split
    next hroom => exact h.place rfl (List.Sublist.refl _) hroom fun k => h.2.2.2.2.2.2 k
    next hfull =>
      obtain ⟨hlen, hord, hnodup, hbelow, hnext, hunused, hsending⟩ := id h
      split
      next k hk =>
        obtain ⟨x, hx, hxk, hfree, -⟩ := NoticeQueue.displaced_spec hk
        refine h.place rfl List.filter_sublist ?_ fun m hm => ?_
        · refine lt_of_lt_of_le (List.length_filter_lt_length_iff_exists.mpr ⟨x, hx, by simp [hxk]⟩) hlen
        · obtain ⟨y, hy, rfl⟩ := List.mem_map.mp (hsending m hm)
          refine List.mem_map_of_mem (List.mem_filter.mpr ⟨hy, decide_eq_true fun heq => hfree ?_⟩)
          rw [hm, heq]
      next =>
        obtain ⟨hfresh, hnew, -⟩ := advanceNumber_free (n := s.notices.next) hlen
        exact ⟨hlen, hord, hnodup, hbelow, hfresh, fun x hx heq => hnew (List.mem_map.mpr ⟨x, hx, heq⟩), hsending⟩

/-! ### Removals keep the queue's form -/

/-- Notices other than the one in transmission leave the queue. -/
theorem NoticeQueue.Sound.sublist {q : NoticeQueue} (h : q.Sound) {l : List Notice} (hl : l.Sublist q.queue)
    {k : Option Nat} (hk : ∀ m, k = some m → m ∈ l.map Notice.number) :
    NoticeQueue.Sound { q with queue := l, sending := k } := by
  obtain ⟨hlen, hord, hnodup, hbelow, hnext, hunused, -⟩ := h
  exact ⟨hl.length_le.trans hlen, hord.sublist hl, hnodup.sublist (hl.map _), fun x hx => hbelow x (hl.subset hx), hnext,
    fun x hx => hunused x (hl.subset hx), hk⟩

/-- A filter that keeps the notice in transmission keeps the queue's form. -/
theorem NoticeQueue.Sound.filter {q : NoticeQueue} (h : q.Sound) (f : Notice → Bool)
    (hf : ∀ x, q.sending = some x.number → f x = true) :
    NoticeQueue.Sound { q with queue := q.queue.filter f } := by
  refine h.sublist List.filter_sublist fun m hm => ?_
  obtain ⟨-, -, -, -, -, -, hsending⟩ := h
  obtain ⟨x, hx, rfl⟩ := List.mem_map.mp (hsending m hm)
  exact List.mem_map_of_mem (List.mem_filter.mpr ⟨hx, hf x hm⟩)

theorem NoticeQueue.init_sound : NoticeQueue.init.Sound := by
  simp [NoticeQueue.Sound, NoticeQueue.init]

section
variable {W : Footprint} {s t : State}

theorem Moves.keeps_noticesSound (h : Moves W s t) (hs : s.notices.Sound) : t.notices.Sound := by
  induction h with
  | refl => exact hs
  | offer o _ ih => exact offer_keeps_sound o ih
  | iceState k f v _ _ _ ih => obtain ⟨a, heq⟩ := writeCurtail_eq k v (State.modIce _ k f); rw [heq]; exact ih
  | _ => assumption

end
end Sys2Proof.Machine
end

section
/-! PROOFS. What a whole step is made of: `Work s t` says that `t` comes from `s` by the moves of the analysis blocks and the
writes of clock, link, notice queue and management unit. Every command and every idle millisecond is such work, so an
invariant of the part is an induction over `Work`. -/

namespace Sys2Proof.Machine

/-- `t` comes from `s` by what commands and milliseconds are made of; each write says what it asks. -/
inductive Work (s : State) : State → Prop
  | refl : Work s s
  | moves {t u : State} : Moves .all t u → Work s t → Work s u
  | powerOn {t : State} (straps : BitVec 6) : Work s t → Work s { State.powerOn straps with pending := t.pending }
  | restartFull {t : State} : Work s t → Work s (restartFullEffect t)
  | resetLow {t : State} (b : Bool) : Work s t → Work s { t with resetLow := b }
  | clock {t : State} (c : Clock) : Work s t → Work s { t with clock := c }
  | minute {t : State} (n : Nat) : Work s t → Work s { t with minuteTaken := n }
  | errors {t : State} (e : ErrorRecord) : Work s t → Work s { t with errors := e }
  | port {t : State} (p : Port) (f : PortState → PortState) : ((t.link.port p).Bounded → (f (t.link.port p)).Bounded) →
      Work s t → Work s (t.modPort p f)
  | mgmt {t : State} (m : Mgmt) : (t.mgmt.queue.length ≤ 4 → m.queue.length ≤ 4) → Work s t → Work s { t with mgmt := m }
  | staged {t : State} (g : Staged) : Work s t → Work s { t with staged := g }
  | tables {t : State} (v : Tables) (gen : Nat) : (t.tables.TargetsUnique → v.TargetsUnique) → Work s t →
      Work s { t with tables := v, generation := gen }
  | items {t : State} (v : Vector MaintItem 96) : ((∀ n : Fin 96, t.items[n].Sound) → ∀ n : Fin 96, v[n].Sound) →
      Work s t → Work s { t with items := v }
  | notices {t : State} (q : NoticeQueue) : (t.notices.Sound → q.Sound) → Work s t → Work s { t with notices := q }
  | turbines {t : State} (v : Vector Turbine 8) : (∀ k : Fin 8, v[k].curtail = t.turbines[k].curtail) → Work s t →
      Work s { t with turbines := v }
  | freeSlots {t : State} : Work s t → Work s { t with slots := Vector.replicate 2 Slot.init }

section
variable {s t : State}

/-! ### The egress arbiters (R187, R188) -/

theorem beginForward_work (p : Port) {n : Nat} (hn : n ≤ 8) (h : Work s t) : Work s (beginForward p n t) := by
  refine .port p _ (fun hb => ?_) h
  obtain ⟨hbuf, hrun, hhealth⟩ := hb
  split
  next => exact ⟨hbuf, hrun, hhealth⟩
  next f rest heq =>
    rw [heq, List.length_cons] at hbuf
    exact ⟨show rest.length ≤ 16 by omega, hn, hhealth⟩

theorem head_mem {q : NoticeQueue} {n : Notice} (h : q.head = some n) : n ∈ q.queue := List.mem_of_find?_eq_some h

theorem beginOwn_work (p : Port) (h : Work s t) : Work s (beginOwn p t) := by
  cases p with
  | field =>
    simp only [beginOwn, beginFieldOwn]
    split
    · exact .port .field _ id (.moves (.turbine _ _ trivial (fun _ => rfl) .refl) h)
    · exact h
  | station =>
    simp only [beginOwn, beginStationOwn]
    split
    · exact .port .station _ id h
    · split
      next n hn =>
        refine .port .station _ id (.notices _ (fun hs => ?_) h)
        refine hs.sublist (List.Sublist.refl _) fun m hm => ?_
        cases hm
        exact List.mem_map_of_mem (head_mem hn)
      next => exact h

theorem arbiter_work (p : Port) (h : Work s t) : Work s (arbiter p t) := by
  simp only [arbiter]
  split
  · exact h
  · split
    · split
      next hrun => exact beginForward_work p (show _ + 1 ≤ 8 from hrun.2) h
      next => exact beginOwn_work p (.port p _ (fun hb => ⟨hb.1, Nat.zero_le _, hb.2.2⟩) h)
    · exact beginForward_work p (Nat.zero_le _) h

theorem arbitrate_work (h : Work s t) : Work s (arbitrate t) := arbiter_work .station (arbiter_work .field h)

/-! ### Link and clock -/

theorem portHealth_work (p : Port) (good : Bool) (h : Work s t) : Work s (portHealth p good t) := by
  have hport : Work s (t.modPort p fun x => { x with health := healthStep good (t.link.port p).health }) := by
    refine .port p _ (fun hb => ⟨hb.1, hb.2.1, ?_⟩) h
    obtain ⟨-, -, hhealth⟩ := hb
    unfold healthStep
    split
    · exact (Nat.sub_le _ _).trans hhealth
    · exact min_le_left _ _
  simp only [portHealth]
  split
  · exact hport
  · exact .moves (.offer _ .refl) hport

theorem forward_work (p : Port) (bytes : List Byte) (h : Work s t) : Work s (forward p bytes t) := by
  unfold forward
  split
  next hroom =>
    refine .port p _ (fun hb => ⟨?_, hb.2⟩) h
    simp only [List.length_append, List.length_singleton]
    exact hroom
  next => exact .errors _ h

theorem freePort_work (p : Port) (h : Work s t) : Work s (freePort p t) := .port p _ id h

theorem completeForwarded_work (p : Port) (h : Work s t) : Work s (completeForwarded p t) := by
  unfold completeForwarded
  split
  · exact freePort_work p h
  · exact h

theorem completeNotice_work (h : Work s t) : Work s (completeNotice t) := by
  unfold completeNotice
  split
  · exact freePort_work _ (.notices _ (fun hs => hs.sublist List.filter_sublist nofun) h)
  · exact h

theorem Advisory.complete_work (h : Work s t) : Work s (completeAdvisory t) := by
  unfold completeAdvisory
  split
  · exact freePort_work _ (.moves (.turbine _ _ trivial (fun _ => rfl) .refl) h)
  · exact h

theorem takeTime_work (d m : Nat) (h : Work s t) : Work s (takeTime d m t) := by
  have hclock : Work s { t with clock := { t.clock with
      day := d, ms := m, sync := .locked, holdoverExpiry := some (t.now + Config.holdoverMs), lastTime := some t.now } } :=
    .clock _ h
  simp only [takeTime]
  split
  · exact .moves (clockSet_moves trivial trivial (.offer _ .refl)) hclock
  · split
    · exact .moves (dayChange_moves trivial trivial .refl) hclock
    · split
      · exact .moves (.offer _ .refl) hclock
      · exact hclock
  · split
    · exact .moves (.offer _ (dayChange_moves trivial trivial .refl)) hclock
    · split
      · exact .moves (.offer _ (.offer _ .refl)) hclock
      · exact .moves (.offer _ .refl) hclock

theorem holdoverExpires_work (h : Work s t) : Work s (holdoverExpires t) := by
  unfold holdoverExpires
  split
  · exact .moves (.offer _ .refl) (.clock _ h)
  · exact h

theorem passMillisecond_work (h : Work s t) : Work s (passMillisecond t) := by
  simp only [passMillisecond]
  split
  · exact .moves (dayChange_moves trivial trivial .refl) (.clock _ h)
  · exact .clock _ h

theorem minutePasses_work (h : Work s t) : Work s (minutePasses t) := by
  unfold minutePasses
  split
  · exact .moves (report_moves _ trivial .refl) (.minute _ h)
  · exact h

theorem dayWraps_work (h : Work s t) : Work s (dayWraps t) := by
  unfold dayWraps
  split
  · exact passMillisecond_work (minutePasses_work h)
  · exact h

/-! ### Requests -/

theorem malformed_work (h : Work s t) : Work s (malformed t).1 := .errors _ h
theorem badTable_work (h : Work s t) : Work s (badTable t).1 := .errors _ h

theorem sized_work {n : Nat} {rq : Request} {f : State × Answer} (hf : Work s f.1) (h : Work s t) :
    Work s (sized n rq t f).1 := by
  unfold sized
  split
  · exact hf
  · exact malformed_work h

theorem indexed_work {m n : Nat} {f : Fin m → State × Answer} (hf : ∀ i, Work s (f i).1) (h : Work s t) :
    Work s (indexed m n t f).1 := by
  unfold indexed
  split
  · exact hf _
  · exact h

theorem storeEntries_work (tc : TableCode) (es : List (Nat × List Byte)) (h : Work s t) :
    Work s (storeEntries tc es t).1 := by
  have hflag : Work s (if ReplyStatus.readOnly ∈ (stageAll tc es t.staged).2 then t.setReadOnlyWrite else t) := by
    split
    · exact .errors _ h
    · exact h
  simp only [storeEntries]
  split
  · exact hflag
  · exact .staged _ hflag

theorem stageEntries_work (rq : Request) (h : Work s t) : Work s (stageEntries rq t).1 := by
  simp only [stageEntries]
  split
  · exact malformed_work h
  · split
    · exact badTable_work h
    · split
      · split
        · exact h
        · exact storeEntries_work _ _ h
      · exact malformed_work h

theorem readTable_work (rq : Request) (record : TableCode → Nat → List Byte) (h : Work s t) :
    Work s (readTable rq record t).1 := by
  refine sized_work ?_ h
  split
  · exact badTable_work h
  · dsimp only
    split
    · exact h
    · exact h

theorem readResults_work (rq : Request) (h : Work s t) : Work s (readResults rq t).1 := by
  simp only [readResults]
  split
  · exact malformed_work h
  · split
    · exact h
    · split
      · exact h
      · exact h

/-! An Apply whose tables pass check 1 of R202 lands tables with no target twice. -/

theorem conflict_eq_none_iff (v : Tables) : v.conflict = none ↔ ∀ j, ¬ v.Conflicts j := by
  have hexcl : ∀ f : StreamFeed, f.exclusive = true ↔ ∀ x, f ≠ .ignore x := by
    intro f
    cases f <;> simp [StreamFeed.exclusive]
  simp only [Tables.conflict, List.find?_eq_none, List.mem_finRange, true_implies, Tables.Conflicts, Bool.and_eq_true,
    List.any_eq_true, true_and, decide_eq_true_eq, hexcl, and_assoc]

theorem targetsUnique_of_conflict {v : Tables} (h : v.conflict = none) : v.TargetsUnique := by
  have hnone := (conflict_eq_none_iff v).mp h
  have hlt : ∀ i j : Fin 64, i < j → v.streams[i].valid = true → v.streams[j].valid = true →
      v.streams[i].feed = v.streams[j].feed → ∃ x, v.streams[j].feed = .ignore x := by
    intro i j hij hi hj heq
    by_contra hne
    exact hnone j ⟨hj, fun x hx => hne ⟨x, hx⟩, i, hij, hi, heq⟩
  intro i j hij hi hj heq
  rcases lt_or_gt_of_ne hij with hlt' | hgt
  · rw [heq]; exact hlt i j hlt' hi hj heq
  · exact hlt j i hgt hj hi heq.symm

theorem MaintItem.loaded_sound {x : MaintItem} (h : x.Sound) (l : MaintLoad) : (x.loaded l).Sound := by
  obtain ⟨hdef, -⟩ := h
  refine ⟨?_, Nat.le_add_right _ _⟩
  simp only [MaintItem.loaded]
  split
  · exact hdef
  · exact Nat.zero_le _

/-- The maintenance entries after the loads of an Apply (R132, R133). -/
def loadedItems (t : State) : Vector MaintItem 96 :=
  tabulate 96 fun n => if t.staged.marks[n] then t.items[n].loaded t.staged.loads[n] else t.items[n]

theorem loadedItems_sound (hs : ∀ n : Fin 96, t.items[n].Sound) (n : Fin 96) : (loadedItems t)[n].Sound := by
  rw [loadedItems, tabulate_get]
  split
  · exact MaintItem.loaded_sound (hs n) _
  · exact hs n

theorem applyMaintenance_work (graceChanged : Bool) (h : Work s t) : Work s (applyMaintenance graceChanged t) := by
  have hitems : Work s { t with items := loadedItems t } := .items _ loadedItems_sound h
  have hmarks := hitems.staged { t.staged with marks := Vector.replicate 96 false }
  refine forAll_keeps (Work s) (fun n t h => ?_) _ hmarks
  split
  · exact .moves (evaluate_moves n trivial .refl) h
  · exact h

/-- The part of an Apply's effect ahead of the maintenance loads is work of the analysis blocks. -/
def applyBlocks (old : Tables) (t : State) : State :=
  let t := forAll 8 (applyTurbine old) t
  let t := resetCounts old t
  let t := forAll 24 (sourceChange old) t
  let t := landingCheck (forAll 24 takeGeneration t)
  let t := forAll 8 (fun k => applyIce old.ice[k] k) t
  let t := forAll 2 (fun p => applyGridEntry old.grid[p] p) t
  forAll 2 (applyGridBinding old) t

theorem applyEffect_eq (t : State) : applyEffect t =
    (let u := applyBlocks t.tables (landTables t)
     suspendCheck (applyMaintenance (decide (t.tables.global.graceDays ≠ u.tables.global.graceDays)) u)) := rfl

theorem applyBlocks_moves {W : Footprint} (old : Tables) (ht : W.turbines) (hc : ∀ c, W.channel c) (hi : ∀ i, W.inst i)
    (hs : W.slots) (ha : W.analysis) (hk : ∀ k, W.ice k) (hp : ∀ p, W.point p) (hn : W.counts) (h : Moves W s t) :
    Moves W s (applyBlocks old t) := by
  have hruns : ∀ c, W.Runs c := fun c => ⟨hc c, fun i _ => hi i, hs, ha⟩
  have hturbines : Moves W s (forAll 8 (applyTurbine old) t) :=
    h.forAll fun k _ => applyTurbine_moves old k ht fun i _ => hi i
  have hsources : Moves W s (forAll 24 (sourceChange old) (resetCounts old (forAll 8 (applyTurbine old) t))) :=
    Moves.forAll (fun c _ => sourceChange_moves old c (hruns c)) (.counts _ hn hturbines)
  have hchannels := landingCheck_moves ha (hsources.forAll fun c _ => takeGeneration_moves c (hruns c))
  have hice := hchannels.forAll fun k _ => applyIce_moves old.ice[k] k (hk k)
  have hgrid := hice.forAll fun p _ => applyGridEntry_moves old.grid[p] p (hp p)
  exact hgrid.forAll fun p _ => applyGridBinding_moves old p (hp p) ha

theorem applyEffect_work (hpass : t.staged.tables.conflict = none) (h : Work s t) : Work s (applyEffect t) := by
  have hland : Work s (landTables t) :=
    .moves (.analysis true _ _ _ trivial .refl) (.tables _ _ (fun _ => targetsUnique_of_conflict hpass) h)
  have hblocks : Moves .all (landTables t) (applyBlocks t.tables (landTables t)) :=
    applyBlocks_moves _ trivial (fun _ => trivial) (fun _ => trivial) trivial trivial (fun _ => trivial)
      (fun _ => trivial) trivial .refl
  rw [applyEffect_eq]
  exact .moves (suspendCheck_moves trivial .refl) (applyMaintenance_work _ (.moves hblocks hland))

theorem conflict_of_applyRefused (h : t.applyRefused = none) : t.staged.tables.conflict = none := by
  simp only [State.applyRefused] at h
  split at h
  · cases h
  · split at h
    · cases h
    · cases h
    · cases h
    next hconflict _ _ => exact hconflict

theorem applyRequest_work (rq : Request) (h : Work s t) : Work s (applyRequest rq t).1 := by
  refine sized_work ?_ h
  split
  · exact h
  next hpass => exact applyEffect_work (conflict_of_applyRefused hpass) h

theorem fetchFrom_sublist (sending : Option Nat) (q : List Notice) (n : Nat) :
    (fetchFrom sending q n).2.Sublist q ∧
      ∀ x ∈ q, sending = some x.number → x ∈ (fetchFrom sending q n).2 := by
  induction q generalizing n with
  | nil => cases n <;> exact ⟨List.Sublist.refl _, fun x hx => by cases hx⟩
  | cons y q ih =>
    cases n with
    | zero => exact ⟨List.Sublist.refl _, fun x hx _ => hx⟩
    | succ n =>
      rw [fetchFrom]
      split
      · obtain ⟨hsub, hin⟩ := ih (n + 1)
        exact ⟨hsub.cons_cons y, fun x hx hs => (List.mem_cons.mp hx).elim (fun e => e ▸ List.mem_cons_self)
          fun hx => List.mem_cons_of_mem _ (hin x hx hs)⟩
      next hy =>
        obtain ⟨hsub, hin⟩ := ih n
        exact ⟨hsub.cons y, fun x hx hs => (List.mem_cons.mp hx).elim (fun e => absurd (e ▸ hs) hy) fun hx => hin x hx hs⟩

theorem fetchNotices_work (rq : Request) (h : Work s t) : Work s (fetchNotices rq t).1 := by
  refine sized_work (.notices _ (fun hs => ?_) h) h
  obtain ⟨hsub, hin⟩ := fetchFrom_sublist t.notices.sending t.notices.queue (countOf (at8 rq.args 0))
  refine hs.sublist hsub fun m hm => ?_
  obtain ⟨-, -, -, -, -, -, hsending⟩ := hs
  obtain ⟨x, hx, rfl⟩ := List.mem_map.mp (hsending m hm)
  exact List.mem_map_of_mem (hin x hx hm)

theorem withdraw_work (k : Option (Fin 8)) (h : Work s t) : Work s (withdraw k t).1 :=
  .notices _ (fun hs => hs.filter _ fun x hx => by simp [NoticeQueue.withdrawn, hx]) h

theorem withdrawNotices_work (rq : Request) (h : Work s t) : Work s (withdrawNotices rq t).1 := by
  refine sized_work ?_ h
  split
  · exact withdraw_work _ h
  · exact indexed_work (fun k => withdraw_work _ h) h

theorem setDeliveryMode_work (rq : Request) (h : Work s t) : Work s (setDeliveryMode rq t).1 := by
  refine sized_work ?_ h
  split
  · exact h
  · split
    · exact h
    next m _ _ =>
      have htables : Work s { t with tables := t.tables.withMode m } := .tables _ t.generation id h
      exact htables.staged _

theorem captureChannel_work (rq : Request) (h : Work s t) : Work s (captureChannel rq t).1 := by
  refine sized_work (indexed_work (fun c => ?_) h) h
  split
  · exact h
  next hc => exact .moves (.capture c _ _ _ trivial hc .refl) h

theorem readCapture_work (rq : Request) (h : Work s t) : Work s (readCapture rq t).1 := by
  refine sized_work (indexed_work (fun k => ?_) h) h
  dsimp only
  split
  · exact h
  · exact h
  · split
    · exact h
    · exact h

theorem releaseCapture_work (rq : Request) (h : Work s t) : Work s (releaseCapture rq t).1 := by
  refine sized_work (indexed_work (fun k => ?_) h) h
  split
  · exact h
  · exact h
  · exact .moves (.slot k _ trivial ⟨fun _ hfree => absurd rfl hfree, nofun⟩ .refl) h

theorem replaceEffects_moves {W : Footprint} (n : Fin 96) (hi : ∀ i, W.inst i) (hk : ∀ k, W.ice k) (h : Moves W s t) :
    Moves W s (replaceEffects n t) := by
  unfold replaceEffects
  split
  · split
    · exact Moves.foldl (fun _ i => resetAlarm_moves i (hi i)) h
    · exact resetBaselines_moves _ (hk _) h
    all_goals exact h
  · exact h

/-- One maintenance entry written by a change that keeps it within its bounds. -/
theorem Work.item (n : Fin 96) (f : MaintItem → MaintItem) (hf : t.items[n].Sound → (f t.items[n]).Sound)
    (h : Work s t) : Work s (t.modItem n f) := by
  refine .items _ (fun hs m => ?_) h
  rw [upd_get]
  split
  next hm => subst hm; exact hf (hs m)
  next => exact hs m

theorem doneRequest_work (rq : Request) (h : Work s t) : Work s (doneRequest rq t).1 := by
  refine sized_work (indexed_work (fun n => ?_) h) h
  unfold doneEntry
  split
  · split
    · exact h
    next d _ =>
      have hdone : Work s (t.modItem n fun e => e.done d) :=
        h.item n _ fun _ => ⟨Nat.zero_le _, Nat.le_add_right _ _⟩
      exact .moves (replaceEffects_moves n (fun _ => trivial) (fun _ => trivial) (evaluate_moves n trivial .refl)) hdone
  · exact h

theorem MaintItem.defer_sound {x : MaintItem} (h : x.Sound) (hx : x.deferrals ≠ 3) {days : Nat} (hd : days ≤ 90) :
    (x.defer days).Sound := by
  obtain ⟨hdef, hdue⟩ := h
  refine ⟨show x.deferrals + 1 ≤ 3 by omega, ?_⟩
  show min (x.dueDay + days) 65535 ≤ x.baseDue + 90 * (x.deferrals + 1)
  omega

theorem deferRefused_none {n : Fin 96} (h : t.deferRefused n = none) : t.items[n].deferrals ≠ 3 := by
  intro h3
  simp only [State.deferRefused, if_pos h3] at h
  repeat' split at h
  all_goals cases h

theorem deferRequest_work (rq : Request) (h : Work s t) : Work s (deferRequest rq t).1 := by
  refine sized_work (indexed_work (fun n => ?_) h) h
  unfold deferEntry
  split
  · exact h
  · split
    · exact h
    next hpass =>
      have hdefer : Work s (t.modItem n fun e => e.defer (min (at16 rq.args 1) 90)) :=
        h.item n _ fun hs => MaintItem.defer_sound hs (deferRefused_none hpass) (min_le_right _ _)
      exact .moves (evaluate_moves n trivial .refl) hdefer

theorem restartQuiet_work (h : Work s t) : Work s (restartQuiet t) :=
  .moves (.analysis false .active false false trivial .refl) h.freeSlots

theorem restartTurbines_work (h : Work s t) : Work s (restartTurbines t) :=
  .turbines _ (fun k => by rw [tabulate_get]; rfl) h

theorem restartProcessingEffect_work (h : Work s t) : Work s (restartProcessingEffect t) := by
  have hchannels : Work s (forAll 24 restartChannel (restartQuiet t)) :=
    .moves (Moves.refl.forAll fun c _ => restartChannel_moves c (Footprint.all_runs c)) (restartQuiet_work h)
  have hinsts : Work s (restartInsts (forAll 24 restartChannel (restartQuiet t))) :=
    .moves (.mapInsts _ (fun _ _ hn => absurd trivial hn) .refl) hchannels
  have hpoints : Work s (forAll 2 restartPoint
      (restartTurbines (restartInsts (forAll 24 restartChannel (restartQuiet t))))) :=
    .moves (Moves.refl.forAll fun p _ => .point p _ trivial) (restartTurbines_work hinsts)
  exact .notices _ (fun hs => hs.filter _ fun x hx => decide_eq_true hx) hpoints

theorem carryOut_work (q : QueuedRequest) (h : Work s t) : Work s (carryOut q t).1 := by
  unfold carryOut
  split
  next => exact malformed_work h
  next => exact sized_work h h
  next => exact stageEntries_work _ h
  next => exact readTable_work _ _ h
  next => exact readTable_work _ _ h
  next => exact sized_work (.staged _ h) h
  next => exact applyRequest_work _ h
  next =>
    exact sized_work (.moves (suspendAnalysis_moves Footprint.all_runs (fun _ => trivial) trivial .refl) h) h
  next =>
    exact sized_work (.moves (resumeAnalysis_moves Footprint.all_runs (fun _ => trivial) trivial .refl) h) h
  next => exact sized_work (.errors _ h) h
  next => exact readResults_work _ h
  next => exact fetchNotices_work _ h
  next => exact setDeliveryMode_work _ h
  next => exact withdrawNotices_work _ h
  next => exact captureChannel_work _ h
  next => exact readCapture_work _ h
  next => exact releaseCapture_work _ h
  next => exact doneRequest_work _ h
  next => exact deferRequest_work _ h
  next =>
    refine sized_work (indexed_work (fun k => ?_) h) h
    split
    · exact h
    · exact .moves (overrideIce_moves k trivial .refl) h
  next => exact sized_work (indexed_work (fun k => .moves (resetBaselines_moves k trivial .refl) h) h) h
  next => exact sized_work h h
  next => exact sized_work (restartProcessingEffect_work h) h

theorem takeRequest_work (q : QueuedRequest) (h : Work s t) : Work s (takeRequest q t) :=
  .mgmt _ id (carryOut_work q h)

theorem takeWaiting_work (h : Work s t) : Work s (takeWaiting t) := by
  unfold takeWaiting
  split
  · exact h
  · split
    · exact h
    next q rest heq =>
      refine takeRequest_work q (.mgmt _ (fun hlen => ?_) h)
      rw [heq, List.length_cons] at hlen
      exact (Nat.le_succ _).trans hlen

theorem offerRequest_work (q : QueuedRequest) (h : Work s t) : Work s (offerRequest q t) := by
  unfold offerRequest
  refine takeWaiting_work ?_
  split
  next hroom =>
    refine .mgmt _ (fun _ => ?_) h
    rw [List.length_append, List.length_singleton]
    exact hroom
  next => exact .errors _ h

theorem request_work (code : Byte) (rq : Request) (h : Work s t) : Work s (request code rq t) := by
  unfold request
  split
  · exact h
  · exact offerRequest_work _ h

theorem completeReply_work (h : Work s t) : Work s (completeReply t) := by
  unfold completeReply
  split
  · extract_lets full m u
    have hfree : Work s u := freePort_work .station (.mgmt { m with reply := none } id h)
    refine takeWaiting_work ?_
    split
    · exact .restartFull hfree
    · exact hfree
  · exact h

/-! ### Reception -/

theorem classifyFrame_work (f : Frame) (h : Work s t) : Work s (classifyFrame f t) := by
  unfold classifyFrame
  split
  · unfold handOverFrame
    split
    next c _ _ => exact .moves (takeSample_moves c _ _ (Footprint.all_samples c) trivial .refl) h
    next p _ _ => exact .moves (takeGrid_moves p _ _ (Footprint.all_blocks p) trivial .refl) h
    next k _ _ =>
      split
      · exact .moves (.counts _ trivial (takeStatus_moves k _ trivial (fun _ _ => trivial) .refl)) h
      · exact h
    next => exact h
  · exact h

theorem alsoUsed_work (p : Port) (f : Frame) (h : Work s t) : Work s (alsoUsed p f t) := by
  unfold alsoUsed
  split
  iterate 3 exact classifyFrame_work f h
  · split
    · exact .errors _ h
    · exact h
  · split
    · exact takeTime_work _ _ h
    · exact h
  · split
    · unfold consumeRequest
      split
      · exact offerRequest_work _ h
      · exact .errors _ h
    · exact h
  · exact h

theorem receive_work (p : Port) (bytes : List Byte) (h : Work s t) : Work s (receive p bytes t) := by
  have hhealth := portHealth_work p true h
  unfold receive
  split
  · refine alsoUsed_work p _ ?_
    split
    · exact hhealth
    · exact forward_work _ _ hhealth
  · exact portHealth_work p false h

/-! ### Commands and steps -/

/-- A meaning of the common form is work when its own work is. -/
theorem live_work {f : State → State} (hf : Work s (f s)) : ∃ t, live f s = .next t ∧ Work s t := by
  cases hlow : s.resetLow with
  | true => exact ⟨s, live_low f hlow, .refl⟩
  | false => exact ⟨_, live_next f hlow, arbitrate_work hf⟩

theorem Moves.work (h : Moves .all s t) : Work s t := .moves h .refl

/-- Every command answers a next state, and it is work. -/
theorem exec_work (c : Instr) (s : State) : ∃ t, exec c s = .next t ∧ Work s t := by
  cases c with
  | powerOn straps => exact ⟨_, rfl, .powerOn straps .refl⟩
  | resetInputHeldLow => exact ⟨_, rfl, .port _ _ id (.port _ _ id (.resetLow true .refl))⟩
  | frameReception p bytes => exact live_work (receive_work p bytes .refl)
  | forwardedFrameCompletion p => exact live_work (completeForwarded_work p .refl)
  | noticeFrameCompletion => exact live_work (completeNotice_work .refl)
  | advisoryFrameCompletion => exact live_work (Advisory.complete_work .refl)
  | mgmtReplyCompletion => exact live_work (completeReply_work .refl)
  | freshnessTimeout k => exact live_work (freshnessExpires_moves k trivial (fun _ _ => trivial) .refl).work
  | resendTimerExpiry k => exact live_work (resendExpires_moves k trivial .refl).work
  | channelIdleTimerExpiry c => exact live_work (channelIdleExpires_moves c (Footprint.all_runs c) .refl).work
  | gridIdleTimerExpiry p => exact live_work (gridIdleExpires_moves p trivial trivial .refl).work
  | holdoverTimerExpiry => exact live_work (holdoverExpires_work .refl)
  | minuteEvent => exact live_work (minutePasses_work .refl)
  | msOfDayWrap => exact live_work (dayWraps_work .refl)
  | _ => exact live_work (request_work _ _ .refl)

theorem takeDue_work (h : Work s t) : Work s (takeDue t) := by
  have hall : ∀ f ∈ expiries, ∀ t, Work s t → Work s (f t) := by
    intro f hf t h
    simp only [expiries, List.mem_append, List.mem_cons, List.not_mem_nil, or_false, List.mem_map, List.mem_finRange,
      true_and] at hf
    rcases hf with ((((rfl | rfl) | ⟨k, rfl⟩) | ⟨k, rfl⟩) | ⟨c, rfl⟩) | ⟨p, rfl⟩
    · exact holdoverExpires_work h
    · exact minutePasses_work h
    · exact .moves (freshnessExpires_moves k trivial (fun _ _ => trivial) .refl) h
    · exact .moves (resendExpires_moves k trivial .refl) h
    · exact .moves (channelIdleExpires_moves c (Footprint.all_runs c) .refl) h
    · exact .moves (gridIdleExpires_moves p trivial trivial .refl) h
  unfold takeDue
  revert hall
  generalize expiries = l
  intro hall
  induction l generalizing t with
  | nil => exact h
  | cons f l ih =>
    exact ih (arbitrate_work (hall f List.mem_cons_self t h)) fun g hg => hall g (List.mem_cons_of_mem _ hg)

theorem tick_work (h : Work s t) : Work s (tick t) := by
  unfold tick
  split
  · exact h
  · exact takeDue_work (arbitrate_work (passMillisecond_work (takeDue_work h)))

/-- Every step is work on the state with its front command taken off the queue. -/
theorem step_work (hstep : step s = .next t) : ∃ rest, Work { s with pending := rest } t := by
  unfold step at hstep
  split at hstep
  next c rest _ =>
    obtain ⟨u, hu, hwork⟩ := exec_work c { s with pending := rest }
    rw [hu] at hstep
    cases hstep
    exact ⟨rest, hwork⟩
  next =>
    cases hstep
    exact ⟨s.pending, tick_work .refl⟩

end
end Sys2Proof.Machine
end

section
/-! PROOFS. The invariants of a sound state: what a step is made of (`Work`) keeps each of them, and the reset state meets
them all. -/

namespace Sys2Proof.Machine

section
variable {s t : State}

/-! ### Link bounds (R186, R187, R189, R197) -/

theorem Link.bounded_iff (l : Link) :
    (∀ p, (l.port p).Bounded) ↔ l.field.Bounded ∧ l.station.Bounded :=
  ⟨fun h => ⟨h .field, h .station⟩, fun h p => by cases p; exacts [h.1, h.2]⟩

theorem State.linkBounded_iff : s.LinkBounded ↔ (∀ p, (s.link.port p).Bounded) ∧ s.mgmt.queue.length ≤ 4 := by
  rw [Link.bounded_iff, and_assoc]; rfl

theorem PortState.init_bounded : PortState.init.Bounded := ⟨Nat.zero_le _, Nat.zero_le _, Nat.zero_le _⟩

theorem Work.keeps_linkBounded (h : Work s t) (hs : s.LinkBounded) : t.LinkBounded := by
  rw [State.linkBounded_iff] at hs ⊢
  induction h with
  | refl => exact hs
  | moves hm _ ih => rwa [State.link_of_shell hm.shell, State.mgmt_of_shell hm.shell]
  | powerOn straps _ ih =>
    exact ⟨(Link.bounded_iff _).mpr ⟨PortState.init_bounded, PortState.init_bounded⟩, Nat.zero_le _⟩
  | restartFull _ ih => exact ⟨ih.1, Nat.zero_le _⟩
  | port p f hf _ ih =>
    obtain ⟨hlink, hqueue⟩ := ih
    refine ⟨fun q => ?_, hqueue⟩
    by_cases hq : q = p
    · subst hq; exact (Link.modPort_same _ q f).symm ▸ hf (hlink q)
    · exact (Link.modPort_other _ p q f hq).symm ▸ hlink q
  | mgmt m hm _ ih => exact ⟨ih.1, hm ih.2⟩
  | _ => assumption

/-! ### The notice queue, deferrals, curtail requests, targets and captures -/

theorem Work.keeps_noticesSound (h : Work s t) (hs : s.notices.Sound) : t.notices.Sound := by
  induction h with
  | refl => exact hs
  | moves hm _ ih => exact hm.keeps_noticesSound ih
  | powerOn straps _ ih => exact NoticeQueue.init_sound
  | restartFull _ ih => exact NoticeQueue.init_sound
  | notices q hq _ ih => exact hq ih
  | _ => assumption

theorem MaintItem.init_sound : MaintItem.init.Sound := ⟨Nat.zero_le _, Nat.zero_le _⟩

theorem State.powerOn_items (straps : BitVec 6) (n : Fin 96) : (State.powerOn straps).items[n] = MaintItem.init :=
  Vector.getElem_replicate _

theorem Work.keeps_deferralBounds (h : Work s t) (hs : ∀ n : Fin 96, s.items[n].Sound) : ∀ n : Fin 96, t.items[n].Sound := by
  induction h with
  | refl => exact hs
  | moves hm _ ih => exact hm.keeps_deferralBounds ih
  | powerOn straps _ ih => exact fun n => (State.powerOn_items straps n).symm ▸ MaintItem.init_sound
  | @restartFull t _ ih => exact fun n => (State.powerOn_items t.node n).symm ▸ MaintItem.init_sound
  | items v hv _ ih => exact hv ih
  | _ => assumption

theorem State.powerOn_turbines (straps : BitVec 6) (k : Fin 8) : (State.powerOn straps).turbines[k] = Turbine.init :=
  Vector.getElem_replicate _

theorem State.powerOn_ice (straps : BitVec 6) (k : Fin 8) : (State.powerOn straps).ice[k] = IceRecord.init :=
  Vector.getElem_replicate _

theorem State.powerOn_curtailSound (straps : BitVec 6) : (State.powerOn straps).CurtailSound := by
  intro k
  rw [State.powerOn_turbines, State.powerOn_ice]
  decide

theorem restartFullEffect_curtail (t : State) (k : Fin 8) : (restartFullEffect t).turbines[k].curtail = .none := by
  simp only [restartFullEffect, tabulate_get]
  rfl

theorem Work.keeps_curtailSound (h : Work s t) (hs : s.CurtailSound) : t.CurtailSound := by
  induction h with
  | refl => exact hs
  | moves hm _ ih => exact hm.keeps_curtailSound ih
  | powerOn straps _ ih => exact State.powerOn_curtailSound straps
  | @restartFull t _ ih =>
    intro k
    have hpower := State.powerOn_curtailSound t.node k
    rw [State.powerOn_turbines] at hpower
    rw [restartFullEffect_curtail]
    exact hpower
  | turbines v hv _ ih => exact fun k => (hv k).symm ▸ ih k
  | _ => assumption

theorem Tables.init_targetsUnique : Tables.init.TargetsUnique := by
  intro i j _ hi
  rw [show Tables.init.streams[i] = StreamEntry.init from Vector.getElem_replicate _] at hi
  cases hi

theorem Work.keeps_targetsUnique (h : Work s t) (hs : s.tables.TargetsUnique) : t.tables.TargetsUnique := by
  induction h with
  | refl => exact hs
  | moves hm _ ih => rwa [State.tables_of_shell hm.shell]
  | powerOn straps _ ih => exact Tables.init_targetsUnique
  | restartFull _ ih => exact Tables.init_targetsUnique
  | tables v gen hv _ ih => exact hv ih
  | _ => assumption

theorem slots_free_sound {v : Vector Slot 2} (h : v = Vector.replicate 2 Slot.init) :
    (∀ k : Fin 2, v[k].Sound) ∧ SlotsApart v := by
  have hfree : ∀ k : Fin 2, v[k] = Slot.init := fun k => by rw [h]; exact Vector.getElem_replicate _
  exact ⟨fun k hk => absurd (by rw [hfree]; rfl) hk, fun j k _ hj => by rw [hfree] at hj; cases hj⟩

theorem State.powerOn_channels (straps : BitVec 6) (c : Fin 24) : (State.powerOn straps).channels[c] = Channel.init :=
  Vector.getElem_replicate _

theorem State.powerOn_captureSound (straps : BitVec 6) : (State.powerOn straps).CaptureSound :=
  State.captureSound_iff.mpr
    ⟨fun c => by rw [State.powerOn_channels]; exact Nat.zero_le _, slots_free_sound rfl⟩

theorem Work.keeps_captureSound (h : Work s t) (hs : s.CaptureSound) : t.CaptureSound := by
  induction h with
  | refl => exact hs
  | moves hm _ ih => exact hm.keeps_captureSound ih
  | powerOn straps _ ih => exact State.powerOn_captureSound straps
  | @restartFull t _ ih => exact State.powerOn_captureSound t.node
  | freeSlots _ ih => exact State.captureSound_iff.mpr ⟨ih.1, slots_free_sound rfl⟩
  | _ => assumption

/-- The waiting commands are taken by the step alone. -/
theorem Work.pending (h : Work s t) : t.pending = s.pending := by
  induction h with
  | refl => rfl
  | moves hm _ ih => rw [State.pending_of_shell hm.shell, ih]
  | _ => assumption

end

/-! ### The statements -/

/-- Settles O54, by induction over the work of a step. -/
theorem stepKeepsLinkBounds : Obligations.StepKeepsLinkBounds := by
  intro s t hs hstep
  obtain ⟨rest, hwork⟩ := step_work hstep
  exact hwork.keeps_linkBounded hs

/-- Settles O55, by induction over the work of a step. -/
theorem stepKeepsNoticeQueueSound : Obligations.StepKeepsNoticeQueueSound := by
  intro s t hs hstep
  obtain ⟨rest, hwork⟩ := step_work hstep
  exact hwork.keeps_noticesSound hs

/-- Settles O56, by induction over the work of a step. -/
theorem stepKeepsDeferralBounds : Obligations.StepKeepsDeferralBounds := by
  intro s t hs hstep
  obtain ⟨rest, hwork⟩ := step_work hstep
  exact hwork.keeps_deferralBounds hs

/-- Settles O57, by induction over the work of a step. -/
theorem stepKeepsCurtailSound : Obligations.StepKeepsCurtailSound := by
  intro s t hs hstep
  obtain ⟨rest, hwork⟩ := step_work hstep
  exact hwork.keeps_curtailSound hs

/-- Settles O58, by induction over the work of a step. -/
theorem stepKeepsTargetsUnique : Obligations.StepKeepsTargetsUnique := by
  intro s t hs hstep
  obtain ⟨rest, hwork⟩ := step_work hstep
  exact hwork.keeps_targetsUnique hs

/-- Settles O59, by induction over the work of a step. -/
theorem stepKeepsCaptureSound : Obligations.StepKeepsCaptureSound := by
  intro s t hs hstep
  obtain ⟨rest, hwork⟩ := step_work hstep
  exact hwork.keeps_captureSound hs

/-- Settles O60: each invariant holds of the power-on values. -/
theorem resetMeetsInvariants : Obligations.ResetMeetsInvariants :=
  ⟨⟨PortState.init_bounded, PortState.init_bounded, Nat.zero_le _⟩, NoticeQueue.init_sound,
    fun n => (State.powerOn_items 0 n).symm ▸ MaintItem.init_sound, State.powerOn_curtailSound 0,
    Tables.init_targetsUnique, State.powerOn_captureSound 0⟩

/-- Settles O2: a command's next state is work on the state before, and work leaves the waiting commands alone. -/
theorem commandsLeaveTheQueue : Obligations.CommandsLeaveTheQueue := by
  intro c s
  obtain ⟨t, hexec, hwork⟩ := exec_work c s
  exact ⟨t, hexec, hwork.pending⟩

/-- Settles O1: the step takes the front command off the queue. -/
theorem stepRunsFrontCommand : Obligations.StepRunsFrontCommand := by
  intro c rest s
  rfl

/-- Settles O5: the power-on values of every block, entry by entry. -/
theorem powerOnEveryBlock : Obligations.PowerOnEveryBlock := by
  intro straps s
  refine ⟨_, exec_powerOn straps s, rfl, rfl, rfl, rfl, fun p => by cases p <;> rfl, rfl, rfl, rfl, fun e => ?_,
    fun b => ?_, fun k => ?_, fun c => ?_, fun i => ?_, fun p => ?_, fun n => ?_⟩
  · simp [State.powerOn, Tables.init, StreamEntry.init]
  · simp [State.powerOn, Tables.init, BandEntry.init]
  · simp [State.powerOn, Tables.init, TurbineEntry.init, IceEntry.init, Turbine.init, Status.init, IceRecord.init,
      Blade.init]
  · simp [State.powerOn, Channel.init]
  · simp [State.powerOn, Inst.init, AlarmRecord.init]
  · simp [State.powerOn, Tables.init, GridEntry.init, GridPoint.init, Slot.init]
  · simp [State.powerOn, MaintItem.init]

/-- Settles O6: the cut of both ports, and that `live` is the state as it stands while the input is low. -/
theorem resetInputHeldLow : Obligations.ResetInputHeldLow := by
  refine ⟨fun s => rfl, fun c s hlow hpower hreset => ?_⟩
  cases c with
  | powerOn straps => exact absurd rfl (hpower straps)
  | resetInputHeldLow => exact absurd rfl hreset
  | _ => exact live_low _ hlow

end Sys2Proof.Machine
end

section
/-! PROOFS. Offers one by one (R171 to R175): the mask, the placing of a notice with room, and what a full queue does. -/

namespace Sys2Proof.Machine

section
variable {o : Offer} {s : State}

theorem masked_iff (o : Offer) (s : State) : s.masked o = true ↔ s.tables.global.mask.getLsbD o.cls.code = true ∨
    ∃ t : Fin 8, o.turbine = some t ∧ o.cls.turbineBound = true ∧ s.tables.turbines[t].valid = true ∧
      s.tables.turbines[t].noticeMask.getLsbD o.cls.code = true := by
  rw [State.masked, Bool.or_eq_true]
  cases hturbine : o.turbine with
  | none => simp [inSet]
  | some t => simp [inSet, and_assoc]

theorem offer_of_masked (h : s.masked o = true) : offer o s = s := if_pos h

/-- An offer that finds room: numbered, stamped, placed. -/
theorem offer_of_room (h : s.masked o = false) (hroom : s.notices.queue.length < 48) :
    offer o s = { s with notices := { s.notices with
      queue := placeNotice (s.notice o) s.notices.queue
      next := advanceNumber s.notices.queue s.notices.next } } := by
  have hsize : s.notices.queue.length < Config.noticeSize := hroom
  simp only [offer, h, Bool.false_eq_true, if_false, NoticeQueue.insert, if_pos hsize]

/-- An offer that finds the queue full. -/
theorem offer_of_full (h : s.masked o = false) (hfull : s.notices.queue.length = 48) :
    offer o s = { s with
      notices := { s.notices with
        queue := match s.notices.displaced o.priority with
          | some k => placeNotice (s.notice o) (s.notices.queue.filter fun x => x.number ≠ k)
          | none => s.notices.queue
        next := advanceNumber s.notices.queue s.notices.next }
      errors := { s.errors with noticeOverflow := true } } := by
  have hsize : ¬ s.notices.queue.length < Config.noticeSize := by rw [hfull]; decide
  simp only [offer, h, Bool.false_eq_true, if_false, NoticeQueue.insert, if_neg hsize]
  rfl

theorem NoticeQueue.candidate_iff (q : NoticeQueue) (priority : Nat) (x : Notice) :
    q.candidate priority x = true ↔ q.sending ≠ some x.number ∧ priority < x.offer.priority := by
  simp [NoticeQueue.candidate]

/-- Without a candidate nothing is displaced. -/
theorem NoticeQueue.displaced_none {q : NoticeQueue} {priority : Nat}
    (h : ∀ x ∈ q.queue, q.sending = some x.number ∨ x.offer.priority ≤ priority) : q.displaced priority = none := by
  have hnone : q.queue.filter (q.candidate priority) = [] := by
    refine List.filter_eq_nil_iff.mpr fun x hx hcand => ?_
    obtain ⟨hsend, hprio⟩ := (q.candidate_iff priority x).mp hcand
    exact (h x hx).elim hsend (Nat.not_le.mpr hprio)
  rw [NoticeQueue.displaced, hnone]
  rfl

/-- The last candidate in queue order is displaced. -/
theorem NoticeQueue.displaced_last {q : NoticeQueue} {priority : Nat} {a b : List Notice} {x : Notice}
    (hq : q.queue = a ++ x :: b) (hx : q.candidate priority x = true)
    (hb : ∀ y ∈ b, q.sending = some y.number ∨ y.offer.priority ≤ priority) :
    q.displaced priority = some x.number := by
  have hnone : b.filter (q.candidate priority) = [] := by
    refine List.filter_eq_nil_iff.mpr fun y hy hcand => ?_
    obtain ⟨hsend, hprio⟩ := (q.candidate_iff priority y).mp hcand
    exact (hb y hy).elim hsend (Nat.not_le.mpr hprio)
  rw [NoticeQueue.displaced, hq, List.filter_append, List.filter_cons_of_pos hx, hnone]
  simp

/-- Numbers being used once, the filter of an overflow takes out one notice. -/
theorem filter_number_ne {a b : List Notice} {x : Notice} (h : ((a ++ x :: b).map Notice.number).Nodup) :
    (a ++ x :: b).filter (fun y => y.number ≠ x.number) = a ++ b := by
  rw [List.map_append, List.map_cons, List.nodup_middle, List.nodup_cons, ← List.map_append] at h
  have hother : ∀ y ∈ a ++ b, y.number ≠ x.number := fun y hy heq => h.1 (heq ▸ List.mem_map_of_mem hy)
  have ha : a.filter (fun y => y.number ≠ x.number) = a :=
    List.filter_eq_self.mpr fun y hy => decide_eq_true (hother y (List.mem_append_left b hy))
  have hb : b.filter (fun y => y.number ≠ x.number) = b :=
    List.filter_eq_self.mpr fun y hy => decide_eq_true (hother y (List.mem_append_right a hy))
  rw [List.filter_append, List.filter_cons_of_neg (by simp), ha, hb]

end

/-- Settles O25: the mask's two cases, and the placing in an ordered queue with room. -/
theorem offerMaskedOrPlaced : Obligations.OfferMaskedOrPlaced := by
  intro o s
  refine ⟨masked_iff o s, offer_of_masked, fun hmask hroom hord => ?_⟩
  rw [offer_of_room hmask hroom]
  exact ⟨placeNotice_eq (s.notice o) hord, rfl⟩

/-- Settles O26: without a candidate the queue stands; the last candidate gives way to the new notice. -/
theorem overflowKeepsOldest : Obligations.OverflowKeepsOldest := by
  intro o s hmask hsound hfull
  obtain ⟨hlen, hord, hnodup, -⟩ := id hsound
  rw [offer_of_full hmask hfull]
  refine ⟨rfl, (advanceNumber_free hlen).2.2, fun hnone => ?_, fun a b x hq hsend hprio hb => ?_⟩
  · rw [NoticeQueue.displaced_none hnone]
  · have hcand := (s.notices.candidate_iff o.priority x).mpr ⟨hsend, hprio⟩
    rw [hq] at hnodup hord
    rw [NoticeQueue.displaced_last hq hcand hb]
    dsimp only
    rw [hq, filter_number_ne hnodup]
    exact placeNotice_eq (s.notice o) (hord.sublist ((List.sublist_cons_self x b).append_left a))

end Sys2Proof.Machine
end

section
/-! PROOFS. Alarm runs (R66, R67): one step above, below and at the level, and the runs they make. -/

namespace Sys2Proof.Machine

/-- The least class of a raise run with one more window. -/
def lowest (m : Option Nat) (c : Nat) : Nat :=
  match m with
  | none => c
  | some r => min r c

/-- The greatest class of a clear run with one more window. -/
def highest (m : Option Nat) (c : Nat) : Nat :=
  match m with
  | none => c
  | some r => max r c

theorem lowest_le (m : Option Nat) (c : Nat) : lowest m c ≤ c := by
  cases m with
  | none => exact le_rfl
  | some r => exact min_le_right r c

section
variable {level p q c : Nat}

/-- An undisturbed window above the level, with no clear run (R66). -/
theorem AlarmRecord.step_above (h : level < c) (n : Nat) (m : Option Nat) :
    AlarmRecord.step ⟨level, n, m, 0, none⟩ c false p q =
      if p ≤ n + 1 then ⟨lowest m c, 0, none, 0, none⟩ else ⟨level, n + 1, some (lowest m c), 0, none⟩ := by
  have hraise : AlarmRecord.raise ⟨level, n, m, 0, none⟩ c false p =
      if p ≤ n + 1 then ⟨lowest m c, 0, none, 0, none⟩ else ⟨level, n + 1, some (lowest m c), 0, none⟩ := by
    simp only [AlarmRecord.raise, if_pos h, Bool.false_eq_true, if_false]
    rfl
  have hlow := Nat.not_lt.mpr (lowest_le m c)
  have hlevel : ¬ c < level := by omega
  rw [AlarmRecord.step, hraise]
  split
  · simp only [AlarmRecord.lower, if_neg hlow]
  · simp only [AlarmRecord.lower, if_neg hlevel]

/-- A window below the level, disturbed or not, whatever raise run it meets (R67). -/
theorem AlarmRecord.step_below (h : c < level) (f : Bool) (n k : Nat) (m high : Option Nat) :
    AlarmRecord.step ⟨level, n, m, k, high⟩ c f p q =
      if q ≤ k + 1 then ⟨highest high c, 0, none, 0, none⟩ else ⟨level, 0, none, k + 1, some (highest high c)⟩ := by
  have hraise : AlarmRecord.raise ⟨level, n, m, k, high⟩ c f p = ⟨level, 0, none, k, high⟩ := by
    simp only [AlarmRecord.raise, if_neg (Nat.not_lt.mpr h.le)]
  rw [AlarmRecord.step, hraise]
  simp only [AlarmRecord.lower, if_pos h]
  rfl

/-- The raise run's last window raises the level to the run's lowest class. -/
theorem raise_run (cs : List Nat) (n : Nat) (m : Option Nat) (hlen : n + (c :: cs).length = p)
    (h : ∀ d ∈ c :: cs, level < d) :
    (c :: cs).foldl (fun a d => AlarmRecord.step a d false p q) ⟨level, n, m, 0, none⟩ =
      ⟨cs.foldl min (lowest m c), 0, none, 0, none⟩ := by
  induction cs generalizing c n m with
  | nil =>
    rw [List.length_singleton] at hlen
    simp only [List.foldl_cons, List.foldl_nil, AlarmRecord.step_above (h c List.mem_cons_self), if_pos hlen.ge]
  | cons d cs ih =>
    simp only [List.length_cons] at hlen
    have hmore : ¬ p ≤ n + 1 := by omega
    rw [List.foldl_cons, AlarmRecord.step_above (h c List.mem_cons_self), if_neg hmore]
    exact ih (n + 1) _ (by simp only [List.length_cons]; omega) fun e he => h e (List.mem_cons_of_mem c he)

/-- A raise run before its end leaves the level. -/
theorem raise_run_level (cs : List Nat) (n : Nat) (m : Option Nat) (hlen : n + cs.length < p) (h : ∀ d ∈ cs, level < d) :
    (cs.foldl (fun a d => AlarmRecord.step a d false p q) ⟨level, n, m, 0, none⟩).level = level := by
  induction cs generalizing n m with
  | nil => rfl
  | cons c cs ih =>
    rw [List.length_cons] at hlen
    have hmore : ¬ p ≤ n + 1 := by omega
    rw [List.foldl_cons, AlarmRecord.step_above (h c List.mem_cons_self), if_neg hmore]
    exact ih (n + 1) _ (by omega) fun e he => h e (List.mem_cons_of_mem c he)

/-- The clear run's last window lowers the level to the run's highest class. -/
theorem clear_run (f : Bool) (cs : List (Nat × Bool)) (n k : Nat) (m high : Option Nat)
    (hlen : k + ((c, f) :: cs).length = q) (h : ∀ d ∈ (c, f) :: cs, d.1 < level) :
    ((c, f) :: cs).foldl (fun a d => AlarmRecord.step a d.1 d.2 p q) ⟨level, n, m, k, high⟩ =
      ⟨cs.foldl (fun r d => max r d.1) (highest high c), 0, none, 0, none⟩ := by
  induction cs generalizing c f n k m high with
  | nil =>
    rw [List.length_singleton] at hlen
    simp only [List.foldl_cons, List.foldl_nil, AlarmRecord.step_below (h (c, f) List.mem_cons_self), if_pos hlen.ge]
  | cons d cs ih =>
    simp only [List.length_cons] at hlen
    have hmore : ¬ q ≤ k + 1 := by omega
    rw [List.foldl_cons, AlarmRecord.step_below (h (c, f) List.mem_cons_self), if_neg hmore]
    exact ih d.2 0 (k + 1) none _ (by simp only [List.length_cons]; omega) fun e he => h e (List.mem_cons_of_mem _ he)

/-- A clear run before its end leaves the level. -/
theorem clear_run_level (cs : List (Nat × Bool)) (n k : Nat) (m high : Option Nat) (hlen : k + cs.length < q)
    (h : ∀ d ∈ cs, d.1 < level) :
    (cs.foldl (fun a d => AlarmRecord.step a d.1 d.2 p q) ⟨level, n, m, k, high⟩).level = level := by
  induction cs generalizing n k m high with
  | nil => rfl
  | cons c cs ih =>
    rw [List.length_cons] at hlen
    have hmore : ¬ q ≤ k + 1 := by omega
    rw [List.foldl_cons, AlarmRecord.step_below (h c List.mem_cons_self), if_neg hmore]
    exact ih 0 (k + 1) none _ (by omega) fun e he => h e (List.mem_cons_of_mem c he)

end

section
variable {a : AlarmRecord} {c p q : Nat}

/-- A window not below the level has no clear run behind it, be the level as it was or raised to the window's class or
less. -/
theorem AlarmRecord.lower_of_not_below (h : a.level ≤ c) : a.lower c q = { a with clearCount := 0, clearLevel := none } := by
  rw [AlarmRecord.lower, if_neg (Nat.not_lt.mpr h)]

theorem AlarmRecord.raise_level_le (h : a.level ≤ c) (f : Bool) : (a.raise c f p).level ≤ c := by
  simp only [AlarmRecord.raise]
  split
  · split
    · exact h
    · split
      · exact lowest_le a.raiseLevel c
      · exact h
  · exact h

theorem AlarmRecord.raise_of_not_above (h : c ≤ a.level) (f : Bool) :
    a.raise c f p = { a with raiseCount := 0, raiseLevel := none } := by
  rw [AlarmRecord.raise, if_neg (Nat.not_lt.mpr h)]

theorem AlarmRecord.raise_of_disturbed (h : a.level < c) : a.raise c true p = a := by
  simp only [AlarmRecord.raise, if_pos h, if_true]

theorem AlarmRecord.lower_raise (c q : Nat) (h : a.raiseCount = 0 ∧ a.raiseLevel = none) :
    (a.lower c q).raiseCount = 0 ∧ (a.lower c q).raiseLevel = none := by
  simp only [AlarmRecord.lower]
  split
  · split
    · exact ⟨rfl, rfl⟩
    · exact h
  · exact h

end

/-- Settles O18: the two runs by induction over their windows, and the single window by its class against the level. -/
theorem alarmRunsMoveLevel : Obligations.AlarmRunsMoveLevel := by
  refine ⟨fun level p q c cs hlen _ habove => ⟨?_, fun k hk => ?_⟩,
    fun level p q c n f m cs hlen hbelow => ⟨?_, fun k hk => ?_⟩, fun a c p q f => ⟨?_, ?_, ?_, ?_⟩⟩
  · exact raise_run cs 0 none (by omega) habove
  · refine raise_run_level _ 0 none ?_ fun d hd => habove d (List.mem_of_mem_take hd)
    rw [List.length_take]
    omega
  · exact clear_run f cs n 0 m none (by omega) hbelow
  · refine clear_run_level _ n 0 m none ?_ fun d hd => hbelow d (List.mem_of_mem_take hd)
    rw [List.length_take]
    omega
  · intro habove
    rw [AlarmRecord.step, AlarmRecord.raise_of_disturbed habove, AlarmRecord.lower_of_not_below habove.le]
  · intro hle
    rw [AlarmRecord.step, AlarmRecord.lower_of_not_below (AlarmRecord.raise_level_le hle f)]
    exact ⟨rfl, rfl⟩
  · intro hc
    rw [AlarmRecord.step, AlarmRecord.raise_of_not_above hc.le]
    have hlevel : AlarmRecord.level { a with raiseCount := 0, raiseLevel := none } ≤ c := hc.ge
    rw [AlarmRecord.lower_of_not_below hlevel]
    exact hc.symm
  · intro hle
    rw [AlarmRecord.step, AlarmRecord.raise_of_not_above hle]
    exact AlarmRecord.lower_raise c q ⟨rfl, rfl⟩

end Sys2Proof.Machine
end

section
/-! PROOFS. The ice monitor in NO_DATA, CLEAR, WATCH and THAWING (R86 to R88, R91), and what a track window finds and
learns (R83 to R85, R92). -/

namespace Sys2Proof.Machine

/-! ### The state steps -/

section
variable {e : IceEntry} {k : TrackConditions} {r : IceRecord}

theorem iceStep_of_stale (h : k.fresh = false) : iceStep e k r = r := by simp [iceStep, h]

theorem iceStep_of_noData (hs : r.state = .noData) (hf : k.fresh = true) :
    iceStep e k r = stepClear k (r.counts .clear 0 0 0) := by simp [iceStep, hs, hf]

theorem iceStep_of_clear (hs : r.state = .clear) (hf : k.fresh = true) : iceStep e k r = stepClear k r := by
  simp [iceStep, hs, hf]

theorem iceStep_of_watch (hs : r.state = .watch) (hf : k.fresh = true) : iceStep e k r = stepWatch e k r := by
  simp [iceStep, hs, hf]

theorem iceStep_of_thawing (hs : r.state = .thawing) (hf : k.fresh = true) : iceStep e k r = stepThawing e k r := by
  simp [iceStep, hs, hf]

theorem stepClear_of_gate (h : k.gate = true) : stepClear k r = r.counts .watch 0 0 0 := if_pos h

theorem stepClear_of_no_gate (h : k.gate = false) : stepClear k r = r := if_neg (by simp [h])

/-- Evidence in WATCH below the suspicion limit (R88). -/
theorem stepWatch_of_evidence (h : k.evidence = true) (hbelow : r.evidence + 1 < e.nsuspect) :
    stepWatch e k r = r.counts .watch (r.evidence + 1) 0 0 := by
  rw [stepWatch, if_pos h, if_neg (Nat.not_le.mpr hbelow), watchClear, if_pos h]

/-- The evidence that reaches the suspicion limit (R88). -/
theorem stepWatch_of_last_evidence (h : k.evidence = true) (hlast : r.evidence + 1 = e.nsuspect) :
    stepWatch e k r =
      if e.niced = e.nsuspect then r.counts .iced e.niced 0 0 else r.counts .suspect e.nsuspect 0 0 := by
  rw [stepWatch, if_pos h, if_pos hlast.ge]

/-- A window in WATCH without evidence takes the clear step, an evaluable one with the evidence count lowered (R88). -/
theorem stepWatch_of_no_evidence (h : k.evidence = false) :
    stepWatch e k r = watchClear e k (if k.evaluable = true then r.evidence - 1 else r.evidence) r := by
  simp only [stepWatch, h, Bool.false_eq_true, if_false]
  split
  · rfl
  · rfl

theorem watchClear_of_end (h : k.evidence = false) (hgate : k.gate = false) (hend : e.nclear ≤ r.clear + 1) (ev : Nat) :
    watchClear e k ev r = r.counts .clear 0 0 0 := by
  simp [watchClear, h, hgate, hend]

theorem watchClear_of_more (h : k.evidence = false) (hmore : k.gate = true ∨ r.clear + 1 < e.nclear) (ev : Nat) :
    watchClear e k ev r = r.counts .watch ev (if k.gate = true then 0 else r.clear + 1) 0 := by
  cases hgate : k.gate with
  | true => simp [watchClear, h, hgate]
  | false =>
    have hbelow : ¬ e.nclear ≤ r.clear + 1 := Nat.not_le.mpr (hmore.resolve_left (by simp [hgate]))
    simp [watchClear, h, hgate, hbelow]

theorem stepThawing_of_evidence (h : k.evidence = true) : stepThawing e k r = r.counts .iced e.niced 0 0 := if_pos h

theorem stepThawing_of_clean (h : k.evidence = false) (he : k.evaluable = true) :
    stepThawing e k r =
      if e.nclear ≤ r.clear + 1 then r.counts .clear 0 0 0 else r.counts .thawing e.niced (r.clear + 1) 0 := by
  simp [stepThawing, h, he]

theorem stepThawing_of_not_evaluable (h : k.evidence = false) (he : k.evaluable = false) : stepThawing e k r = r := by
  simp [stepThawing, h, he]

/-! No state step reads or writes the baselines. -/

section
variable (v : Vector Blade 3)

theorem stepClear_withBlades : stepClear k { r with blades := v } = { stepClear k r with blades := v } := by
  unfold stepClear; split_ifs <;> rfl

theorem watchClear_withBlades (ev : Nat) :
    watchClear e k ev { r with blades := v } = { watchClear e k ev r with blades := v } := by
  unfold watchClear; split_ifs <;> rfl

theorem stepWatch_withBlades : stepWatch e k { r with blades := v } = { stepWatch e k r with blades := v } := by
  unfold stepWatch
  split_ifs
  · rfl
  · rfl
  all_goals exact watchClear_withBlades v _

theorem stepSuspect_withBlades : stepSuspect e k { r with blades := v } = { stepSuspect e k r with blades := v } := by
  unfold stepSuspect; split_ifs <;> rfl

theorem stepIced_withBlades : stepIced e k { r with blades := v } = { stepIced e k r with blades := v } := by
  unfold stepIced; split_ifs <;> rfl

theorem stepThawing_withBlades : stepThawing e k { r with blades := v } = { stepThawing e k r with blades := v } := by
  unfold stepThawing; split_ifs <;> rfl

theorem iceStep_withBlades : iceStep e k { r with blades := v } = { iceStep e k r with blades := v } := by
  unfold iceStep
  split
  · rfl
  · dsimp only
    split
    · exact stepClear_withBlades (r := r.counts .clear 0 0 0) v
    · exact stepClear_withBlades v
    · exact stepWatch_withBlades v
    · exact stepSuspect_withBlades v
    · exact stepIced_withBlades v
    · exact stepThawing_withBlades v

end

theorem iceStep_blades : (iceStep e k r).blades = r.blades := by
  have h : (iceStep e k { r with blades := r.blades }).blades = r.blades := by rw [iceStep_withBlades]
  exact h

end

/-- Settles O21: each state's step by its cases. -/
theorem weatherAndThawSteps : Obligations.WeatherAndThawSteps := by
  rintro e k r n rfl hevaluable
  refine ⟨iceStep_of_stale, iceStep_blades, fun hfresh => ⟨?_, ?_, ?_, ?_, ?_, ?_, ?_, ?_, ?_, ?_, ?_⟩⟩
  · rintro (hs | hs) hgate
    · rw [iceStep_of_noData hs hfresh, stepClear_of_gate hgate]; exact ⟨rfl, rfl, rfl⟩
    · rw [iceStep_of_clear hs hfresh, stepClear_of_gate hgate]; exact ⟨rfl, rfl, rfl⟩
  · intro hs hgate
    rw [iceStep_of_noData hs hfresh, stepClear_of_no_gate hgate]; rfl
  · intro hs hgate
    rw [iceStep_of_clear hs hfresh, stepClear_of_no_gate hgate]
  · intro hs hev hbelow
    rw [iceStep_of_watch hs hfresh, stepWatch_of_evidence hev hbelow]; exact ⟨rfl, rfl, rfl⟩
  · intro hs hev hlast hne
    rw [iceStep_of_watch hs hfresh, stepWatch_of_last_evidence hev hlast, if_neg hne]; exact ⟨rfl, rfl⟩
  · intro hs hev hlast heq
    rw [iceStep_of_watch hs hfresh, stepWatch_of_last_evidence hev hlast, if_pos heq]; exact ⟨rfl, rfl, rfl⟩
  · intro hs hev
    rw [iceStep_of_watch hs hfresh, stepWatch_of_no_evidence hev]
    refine ⟨fun hgate hend => ?_, fun hmore => ?_⟩
    · rw [watchClear_of_end hev hgate hend]; exact ⟨rfl, rfl, rfl, rfl⟩
    · rw [watchClear_of_more hev hmore]; exact ⟨rfl, rfl, rfl⟩
  · intro hs hev
    rw [iceStep_of_thawing hs hfresh, stepThawing_of_evidence hev]; exact ⟨rfl, rfl, rfl, rfl⟩
  · intro hs hev heval hbelow
    rw [iceStep_of_thawing hs hfresh, stepThawing_of_clean hev heval, if_neg (Nat.not_le.mpr hbelow)]; exact ⟨rfl, rfl⟩
  · intro hs hev heval hend
    rw [iceStep_of_thawing hs hfresh, stepThawing_of_clean hev heval, if_pos hend]; exact ⟨rfl, rfl, rfl, rfl⟩
  · intro hs heval
    have hev : k.evidence = false := by
      cases h : k.evidence with
      | false => rfl
      | true => rw [hevaluable h] at heval; cases heval
    rw [iceStep_of_thawing hs hfresh, stepThawing_of_not_evaluable hev heval]

/-! ### Track windows -/

/-- A footprint that holds nothing; structure updates of it name what a piece of work may write. -/
def Footprint.nothing : Footprint :=
  { turbines := False, channel := fun _ => False, inst := fun _ => False, ice := fun _ => False, point := fun _ => False,
    items := False, slots := False, counts := False, analysis := False, day := False }

theorem Moves.ice_eq {W : Footprint} {s t : State} (h : Moves W s t) (hk : ∀ k, ¬ W.ice k) : t.ice = s.ice :=
  vector_ext_fin fun k => h.ice_stands (hk k)

@[simp] theorem offer_ice (o : Offer) (s : State) : (offer o s).ice = s.ice := by
  obtain ⟨q, e, heq⟩ := offer_eq o s; rw [heq]

@[simp] theorem writeCurtail_ice (k : Fin 8) (v : Curtail) (s : State) : (writeCurtail k v s).ice = s.ice := by
  obtain ⟨a, heq⟩ := writeCurtail_eq k v s; rw [heq, State.modTurbine_ice]

/-- The effects of a change of ice state reach no ice record (R94 to R98). -/
theorem iceEffects_ice (k : Fin 8) (i : Fin 96) (old : IceState) (v : NoticeValue) (gen : Nat) (s : State) :
    (iceEffects k i old v gen s).ice = s.ice := by
  have hcapture : ∀ t : State, (captureTrigger i .iced gen t).ice = t.ice := fun t =>
    (captureTrigger_moves (W := { Footprint.nothing with slots := True }) i .iced gen trivial .refl).ice_eq fun _ => id
  have hreports : ∀ (a b : IceState) (t : State), (holdReports k a b t).ice = t.ice := fun a b t =>
    (holdReports_moves (W := Footprint.nothing) k a b .refl).ice_eq fun _ => id
  simp only [iceEffects, hreports]
  split
  · rw [hcapture]; exact (offer_ice _ _).trans (writeCurtail_ice _ _ _)
  · exact (offer_ice _ _).trans (writeCurtail_ice _ _ _)

/-- The ice records after a track window: its turbine's own, written once. -/
theorem trackWindow_ice (k : Fin 8) (b : Fin 3) (i : Fin 96) (v : Verdict) (c gen : Nat) (s : State) :
    (trackWindow k b i v c gen s).ice =
      upd s.ice k (IceRecord.track s.tables.ice[k]
        (trackConditions s.tables.ice[k] s.turbines[k] s.ice[k].blades[b] v c) b c) := by
  rw [trackWindow_eq]
  dsimp only
  split
  · rfl
  · rw [iceEffects_ice]; rfl

section
variable {e : IceEntry} {k : TrackConditions} {r : IceRecord} {b : Fin 3} {c : Nat}

/-- The record of a track window, its state step taken out of the baselines' way. -/
theorem IceRecord.track_eq : r.track e k b c =
    { iceStep e k r with
      blades :=
        if (iceStep e k r).state = .clear ∧ k.evaluable = true ∧ k.learnWarm = true then
          upd r.blades b fun x => Blade.learn { x with lastC := some c } c
        else upd r.blades b fun x => { x with lastC := some c } } := by
  simp only [IceRecord.track, iceStep_withBlades]
  split
  · congr 1
    simp only [upd]
    simp
  · rfl

theorem IceRecord.track_state : (r.track e k b c).state = (iceStep e k r).state := by rw [IceRecord.track_eq]

theorem IceRecord.track_other {j : Fin 3} (hj : j ≠ b) : (r.track e k b c).blades[j] = r.blades[j] := by
  rw [IceRecord.track_eq]
  dsimp only
  split
  · exact upd_other _ _ _ _ hj
  · exact upd_other _ _ _ _ hj

theorem IceRecord.track_learned
    (h : (iceStep e k r).state = .clear ∧ k.evaluable = true ∧ k.learnWarm = true) :
    (r.track e k b c).blades[b] = Blade.learn { r.blades[b] with lastC := some c } c := by
  rw [IceRecord.track_eq]
  dsimp only
  rw [if_pos h, upd_same]

theorem IceRecord.track_kept
    (h : ¬ ((iceStep e k r).state = .clear ∧ k.evaluable = true ∧ k.learnWarm = true)) :
    (r.track e k b c).blades[b] = { r.blades[b] with lastC := some c } := by
  rw [IceRecord.track_eq]
  dsimp only
  rw [if_neg h, upd_same]

end

/-- The learning step keeps the crossing count and does not read it (R92). -/
theorem Blade.learn_withLastC (x : Blade) (n : Option Nat) (c : Nat) :
    Blade.learn { x with lastC := n } c = { x.learn c with lastC := n } := by
  cases h : x.status <;> simp [Blade.learn, h]

theorem corrected_eq (b16 c : Nat) : (corrected b16 c : Int) = (b16 : Int) + (16 * (c : Int) - (b16 : Int)).tdiv 16 := by
  unfold corrected
  refine Int.toNat_of_nonneg ?_
  rcases le_total 0 (16 * (c : Int) - b16) with hpos | hneg
  · have := Int.tdiv_nonneg hpos (by norm_num : (0 : Int) ≤ 16)
    omega
  · have hflip : (16 * (c : Int) - b16).tdiv 16 = -((b16 - 16 * (c : Int)).tdiv 16) := by
      rw [← Int.neg_tdiv]; congr 1; ring
    rw [hflip, Int.tdiv_eq_ediv_of_nonneg (by omega)]
    omega

section
variable {b : Blade} {c : Nat}

theorem Blade.learn_of_none (h : b.status = .none) : b.learn c = { b with b16 := 16 * c, status := .learning 1 } := by
  simp [Blade.learn, h]

theorem Blade.learn_of_learning {n : Nat} (h : b.status = .learning n) :
    b.learn c = { b with b16 := corrected b.b16 c, status := if n < 31 then .learning (n + 1) else .valid } := by
  simp [Blade.learn, h]

theorem Blade.learn_of_valid (h : b.status = .valid) : b.learn c = { b with b16 := corrected b.b16 c } := by
  simp [Blade.learn, h]

theorem Blade.learn_of_loaded (h : b.status = .loaded) : b.learn c = b := by
  simp [Blade.learn, h]

end

/-- Settles O22: the conditions as they are formed, the record written by a track window, and the learning step. -/
theorem trackWindowLearnsBaseline : Obligations.TrackWindowLearnsBaseline := by
  refine ⟨?_, ?_, fun b c => ⟨?_, Blade.learn_of_loaded, ?_, ?_, ?_⟩⟩
  · rintro e x b v c k rfl
    have husable : b.usable = true ↔ b.status = .valid ∨ b.status = .loaded := by
      cases h : b.status <;> simp [Blade.usable, h]
    refine ⟨by simp [trackConditions], by simp [trackConditions, and_assoc], by simp [trackConditions], ?_⟩
    simp only [trackConditions, Bool.and_eq_true, decide_eq_true_eq, husable, and_assoc]
    exact Iff.rfl
  · rintro t b i v c gen k old n s rfl rfl hn
    have hwarm : (trackConditions s.tables.ice[t] s.turbines[t] s.ice[t].blades[b] v c).learnWarm = true ↔
        s.tables.ice[t].tlearn ≤ s.turbines[t].status.ambient := decide_eq_true_iff
    rw [trackWindow_ice, upd_same] at hn ⊢
    generalize trackConditions s.tables.ice[t] s.turbines[t] s.ice[t].blades[b] v c = k at hn hwarm ⊢
    have hother : ∀ j : Fin 8, j ≠ t → (upd s.ice t (IceRecord.track s.tables.ice[t] k b c))[j] = s.ice[j] :=
      fun j hj => upd_other _ _ _ _ hj
    by_cases hlearn : (iceStep s.tables.ice[t] k s.ice[t]).state = .clear ∧ k.evaluable = true ∧ k.learnWarm = true
    · rw [IceRecord.track_learned hlearn, Blade.learn_withLastC] at hn
      obtain ⟨hclear, heval, hlw⟩ := hlearn
      refine ⟨IceRecord.track_state, by rw [hn], fun j hj => IceRecord.track_other hj, hother, fun hnot => ?_,
        fun _ _ _ => by rw [hn]; exact ⟨rfl, rfl⟩⟩
      rcases hnot with h | h | h
      · exact absurd hclear h
      · rw [heval] at h; cases h
      · exact absurd (hwarm.mp hlw) (not_le.mpr h)
    · rw [IceRecord.track_kept hlearn] at hn
      exact ⟨IceRecord.track_state, by rw [hn], fun j hj => IceRecord.track_other hj, hother,
        fun _ => by rw [hn]; exact ⟨rfl, rfl⟩,
        fun hclear heval hle => absurd ⟨hclear, heval, hwarm.mpr hle⟩ hlearn⟩
  · intro h
    rw [Blade.learn_of_none h]; exact ⟨rfl, rfl⟩
  · rintro (h | ⟨n, h⟩)
    · rw [Blade.learn_of_valid h]; exact corrected_eq b.b16 c
    · rw [Blade.learn_of_learning h]; exact corrected_eq b.b16 c
  · intro n h hn
    rw [Blade.learn_of_learning h]; exact if_pos hn
  · rintro (h | h)
    · rw [Blade.learn_of_learning h]; rfl
    · rw [Blade.learn_of_valid h]; exact h

end Sys2Proof.Machine
end

section
/-! PROOFS. The completed grid block (R107, R109, R122 to R125): sync condition, alarm step, result and next block. -/

namespace Sys2Proof.Machine

section
variable (o : Offer) (s : State)

@[simp] theorem offer_points : (offer o s).points = s.points := by
  obtain ⟨q, e, heq⟩ := offer_eq o s; rw [heq]

@[simp] theorem offer_tables : (offer o s).tables = s.tables := State.tables_of_shell (offer_shell o s)

end

section
variable {p : Fin 2} {s : State}

/-! ### Sync condition (R124) -/

theorem faultReported_iff (old new : SyncCondition) : faultReported old new = true ↔
    (old = .none ∨ old = .sound) ∧ (new = .offSync ∨ new = .phaseOrder) ∨
      (old = .offSync ∨ old = .phaseOrder) ∧ new = .sound := by
  have hfaulty : ∀ c : SyncCondition, c.faulty = true ↔ c = .offSync ∨ c = .phaseOrder := by
    intro c; cases c <;> simp [SyncCondition.faulty]
  have hsound : ∀ c : SyncCondition, c.faulty = false ↔ c = .none ∨ c = .sound := by
    intro c; cases c <;> simp [SyncCondition.faulty]
  simp only [faultReported, Bool.or_eq_true, Bool.and_eq_true, Bool.not_eq_true', hfaulty, hsound, decide_eq_true_eq]

theorem syncUpdate_points (p : Fin 2) (v : GridVerdict) (gen : Nat) (s : State) :
    (syncUpdate p v gen s).points = upd s.points p fun x => { x with sync := s.points[p].sync.after v } := by
  simp only [syncUpdate]
  split
  · rw [offer_points]; rfl
  · rfl

theorem syncUpdate_tables (v : GridVerdict) (gen : Nat) : (syncUpdate p v gen s).tables = s.tables :=
  State.tables_of_shell (syncUpdate_shell p v gen s)

/-! ### The alarm step (R123) -/

/-- A point after the alarm step of a completed block: one that is not EVALUATED takes none. -/
def GridPoint.alarmed (e : GridEntry) (ev : Option GridEvaluation) (x : GridPoint) : GridPoint :=
  match ev with
  | none => x
  | some v => x.alarmStep e v.exceeds

theorem alarmUpdate_points (p : Fin 2) (r : GridResult) (s : State) :
    (alarmUpdate p r s).points = upd s.points p (GridPoint.alarmed s.tables.grid[p] r.evaluation) := by
  unfold alarmUpdate
  split
  next hnone => rw [hnone]; exact (upd_id rfl).symm
  next v hsome =>
    rw [hsome]
    dsimp only
    split
    · rfl
    · exact offer_points _ _

/-- An alarm step that leaves the alarm state queues nothing. -/
theorem alarmUpdate_of_same {r : GridResult} {v : GridEvaluation} (hv : r.evaluation = some v) {f : GridPoint → GridPoint}
    (hf : s.points[p].alarmStep s.tables.grid[p] v.exceeds = f s.points[p])
    (hsame : (f s.points[p]).alarm = s.points[p].alarm) :
    alarmUpdate p r s = { s with points := upd s.points p f } := by
  have hpoint : s.modPoint p (GridPoint.alarmStep s.tables.grid[p] v.exceeds) = { s with points := upd s.points p f } :=
    congrArg (fun w => { s with points := w }) (upd_congr hf)
  simp only [alarmUpdate, hv, hpoint, upd_same, if_pos hsame]

/-- An alarm step that changes the alarm state queues its GRID_ALARM notice with the worst THD. -/
theorem alarmUpdate_of_change {r : GridResult} {v : GridEvaluation} (hv : r.evaluation = some v)
    {f : GridPoint → GridPoint} (hf : s.points[p].alarmStep s.tables.grid[p] v.exceeds = f s.points[p])
    (hchange : (f s.points[p]).alarm ≠ s.points[p].alarm) :
    alarmUpdate p r s = gridAlarmNotice p s.points[p].alarm (f s.points[p]).alarm (.thd v.worstThd) r.gen
      { s with points := upd s.points p f } := by
  have hpoint : s.modPoint p (GridPoint.alarmStep s.tables.grid[p] v.exceeds) = { s with points := upd s.points p f } :=
    congrArg (fun w => { s with points := w }) (upd_congr hf)
  simp only [alarmUpdate, hv, hpoint, upd_same, if_neg hchange]

section
variable {x : GridPoint} {e : GridEntry}

theorem alarmStep_raise_more (h : x.alarm = .normal) (hmore : x.raiseCount + 1 < e.persistence) :
    x.alarmStep e true = { x with raiseCount := x.raiseCount + 1 } := by
  simp [GridPoint.alarmStep, h, hmore]

theorem alarmStep_raise_last (h : x.alarm = .normal) (hlast : e.persistence ≤ x.raiseCount + 1) :
    x.alarmStep e true = { x with alarm := .alarm, raiseCount := 0, clearCount := 0 } := by
  simp [GridPoint.alarmStep, h, hlast]

theorem alarmStep_normal (h : x.alarm = .normal) : x.alarmStep e false = { x with raiseCount := 0 } := by
  simp [GridPoint.alarmStep, h]

theorem alarmStep_clear_more (h : x.alarm = .alarm) (hmore : x.clearCount + 1 < e.clear) :
    x.alarmStep e false = { x with clearCount := x.clearCount + 1 } := by
  simp [GridPoint.alarmStep, h, hmore]

theorem alarmStep_clear_last (h : x.alarm = .alarm) (hlast : e.clear ≤ x.clearCount + 1) :
    x.alarmStep e false = { x with alarm := .normal, raiseCount := 0, clearCount := 0 } := by
  simp [GridPoint.alarmStep, h, hlast]

theorem alarmStep_alarm (h : x.alarm = .alarm) : x.alarmStep e true = { x with clearCount := 0 } := by
  simp [GridPoint.alarmStep, h]

/-- The alarm step reads and writes the alarm record alone. -/
theorem alarmed_withSync (ev : Option GridEvaluation) (c : SyncCondition) :
    GridPoint.alarmed e ev { x with sync := c } = { GridPoint.alarmed e ev x with sync := c } := by
  cases ev with
  | none => rfl
  | some v =>
    simp only [GridPoint.alarmed, GridPoint.alarmStep]
    split
    · split <;> rfl
    · rfl
    · split <;> rfl
    · rfl

/-- What the alarm step leaves of a point. -/
theorem alarmed_eq (ev : Option GridEvaluation) :
    GridPoint.alarmed e ev x = { x with
      alarm := (GridPoint.alarmed e ev x).alarm
      raiseCount := (GridPoint.alarmed e ev x).raiseCount
      clearCount := (GridPoint.alarmed e ev x).clearCount } := by
  cases ev with
  | none => rfl
  | some v =>
    simp only [GridPoint.alarmed, GridPoint.alarmStep]
    split
    · split <;> rfl
    · rfl
    · split <;> rfl
    · rfl

end

/-! ### The completed block (R109, R122, R125) -/

theorem suspendCheck_points (s : State) : (suspendCheck s).points = s.points :=
  vector_ext_fin fun _ =>
    (suspendCheck_moves (W := { Footprint.nothing with analysis := True }) trivial .refl).point_stands id

theorem reportGrid_points (q : Fin 2) (s : State) : (reportGrid q s).points = s.points :=
  vector_ext_fin fun _ =>
    (report_moves (W := { Footprint.nothing with items := True }) _ trivial .refl).point_stands id

/-- A point whose next block starts, its armed flags carried (R110, R113). -/
def GridPoint.nextBlock (l : Latch) (x : GridPoint) : GridPoint :=
  { x with index := 0, latch := some l, acc := zeroAcc,
           detectors := tabulate 3 fun k => { x.detectors[k] with list := [] } }

theorem startBlock_points (p : Fin 2) (s : State) :
    (startBlock p s).points = upd s.points p (GridPoint.nextBlock (s.latchFor p)) := rfl

theorem State.latchFor_of_shell {s t : State} (h : t.shell = s.shell) (p : Fin 2) : t.latchFor p = s.latchFor p := by
  simp only [State.latchFor, State.tables_of_shell h, State.generation_of_shell h]

/-- A point whose block ended with result `r`: SUSPENDED when it was marked, in its next block otherwise. -/
def GridPoint.finished (l : Latch) (r : GridResult) (x : GridPoint) : GridPoint :=
  if x.marked then GridPoint.rest .suspended { x with lastResult := some r }
  else GridPoint.nextBlock l { x with lastResult := some r }

theorem upd_upd {α : Type} {n : Nat} (v : Vector α n) (i : Fin n) (f g : α → α) :
    upd (upd v i f) i g = upd v i (g ∘ f) := by
  simp only [upd, Function.comp]
  simp

theorem finishBlock_points (p : Fin 2) (r : GridResult) (s : State) :
    (finishBlock p r s).points = upd s.points p (GridPoint.finished (s.latchFor p) r) := by
  have hresult : (s.modPoint p fun x => { x with lastResult := some r }).points[p] =
      { s.points[p] with lastResult := some r } := by rw [State.modPoint_points, upd_same]
  simp only [finishBlock, hresult]
  split
  next hmarked =>
    rw [suspendCheck_points, State.modPoint_points, State.modPoint_points, upd_upd]
    exact upd_congr (if_pos hmarked).symm
  next hmarked =>
    rw [startBlock_points, State.modPoint_points, upd_upd]
    exact upd_congr (if_neg hmarked).symm

/-- The point of a completed block after alarm step and sync condition (R123, R124). -/
def GridPoint.judged (e : GridEntry) (r : GridResult) (x : GridPoint) : GridPoint :=
  { GridPoint.alarmed e r.evaluation x with sync := x.sync.after r.verdict }

theorem judged_eq (e : GridEntry) (r : GridResult) (x : GridPoint) :
    GridPoint.judged e r x = { x with
      alarm := (GridPoint.alarmed e r.evaluation x).alarm
      raiseCount := (GridPoint.alarmed e r.evaluation x).raiseCount
      clearCount := (GridPoint.alarmed e r.evaluation x).clearCount
      sync := x.sync.after r.verdict } := by
  rw [GridPoint.judged, alarmed_eq]

/-- A completed block in the order of R125, as one write of its point. -/
theorem completeBlock_points (p : Fin 2) (l : Latch) (s : State) :
    (completeBlock p l s).points =
      (let r := blockResult l s.points[p].acc s.points[p].detectors s.now
       upd s.points p (GridPoint.finished (s.latchFor p) r ∘ GridPoint.judged s.tables.grid[p] r)) := by
  rw [completeBlock_eq]
  dsimp only
  generalize blockResult l s.points[p].acc s.points[p].detectors s.now = r
  have halarm : (alarmUpdate p r (syncUpdate p r.verdict l.gen s)).points =
      upd s.points p (GridPoint.judged s.tables.grid[p] r) := by
    rw [alarmUpdate_points, syncUpdate_points, syncUpdate_tables, upd_upd]
    exact upd_congr (alarmed_withSync _ _)
  have hshell : (alarmUpdate p r (syncUpdate p r.verdict l.gen s)).shell = s.shell := by simp
  generalize alarmUpdate p r (syncUpdate p r.verdict l.gen s) = u at halarm hshell ⊢
  rw [finishBlock_points]
  split
  · rw [reportGrid_points, halarm, upd_upd, State.latchFor_of_shell ((reportGrid_shell p u).trans hshell)]
  · rw [halarm, upd_upd, State.latchFor_of_shell hshell]

end

/-- Settles O24: sync condition and alarm step by their cases, and the completed block as one write of its point. -/
theorem gridBlockSteps : Obligations.GridBlockSteps := by
  refine ⟨?_, ?_, ?_⟩
  · rintro p v gen old new s u rfl hnew rfl
    have hafter : new = s.points[p].sync.after v := hnew.trans (by cases v <;> rfl)
    rw [hafter]
    simp only [syncUpdate]
    exact if_congr (faultReported_iff _ _) rfl rfl
  · rintro p r x g s rfl rfl
    refine ⟨fun hnone => by rw [alarmUpdate, hnone], fun v hv => ⟨?_, ?_, ?_, ?_, ?_, ?_⟩⟩
    · intro hn he hmore
      exact alarmUpdate_of_same hv (by rw [he]; exact alarmStep_raise_more hn hmore) rfl
    · intro hn he hlast
      rw [alarmUpdate_of_change (f := fun x => { x with alarm := .alarm, raiseCount := 0, clearCount := 0 }) hv
        (by rw [he]; exact alarmStep_raise_last hn hlast) (by rw [hn]; nofun), hn]
      rfl
    · intro hn he
      exact alarmUpdate_of_same hv (by rw [he]; exact alarmStep_normal hn) rfl
    · intro hn he hmore
      exact alarmUpdate_of_same hv (by rw [he]; exact alarmStep_clear_more hn hmore) rfl
    · intro hn he hlast
      rw [alarmUpdate_of_change (f := fun x => { x with alarm := .normal, raiseCount := 0, clearCount := 0 }) hv
        (by rw [he]; exact alarmStep_clear_last hn hlast) (by rw [hn]; nofun), hn]
      rfl
    · intro hn he
      exact alarmUpdate_of_same hv (by rw [he]; exact alarmStep_alarm hn) rfl
  · rintro p l x r s t rfl rfl hr
    have hr' : r = blockResult l s.points[p].acc s.points[p].detectors s.now := hr
    have hpoints := completeBlock_points p l s
    rw [← hr'] at hpoints
    have hpoint : (completeBlock p l s).points[p] =
        GridPoint.finished (s.latchFor p) r (GridPoint.judged s.tables.grid[p] r s.points[p]) := by
      rw [hpoints, upd_same]; rfl
    have hjudged := judged_eq s.tables.grid[p] r s.points[p]
    have hmark : (GridPoint.judged s.tables.grid[p] r s.points[p]).marked = s.points[p].marked := by rw [hjudged]
    rw [syncUpdate_points, alarmUpdate_points, upd_same, upd_same, hpoint, hpoints]
    cases hm : s.points[p].marked with
    | false =>
      rw [GridPoint.finished, if_neg (by rw [hmark, hm]; exact Bool.false_ne_true), hjudged]
      refine ⟨rfl, rfl, rfl, rfl, rfl, fun q hq => upd_other _ _ _ _ hq, fun _ => ⟨rfl, rfl, rfl, rfl, fun q => ?_⟩, nofun⟩
      simp only [GridPoint.nextBlock, tabulate_get]
    | true =>
      rw [GridPoint.finished, if_pos (by rw [hmark, hm]), hjudged]
      exact ⟨rfl, rfl, rfl, rfl, rfl, fun q hq => upd_other _ _ _ _ hq, nofun, fun _ => ⟨rfl, rfl, rfl, rfl⟩⟩

end Sys2Proof.Machine
end

section
/-! PROOFS. The egress arbiters (R187, R188): what they leave in each field, which own frame each begins, what a port holds
after its arbiter's choice, and the completions of frames. -/

namespace Sys2Proof.Machine

/-! ### What the arbiters leave -/

@[simp] theorem arbitrate_resetLow (s : State) : (arbitrate s).resetLow = s.resetLow := by
  have h := congrArg State.resetLow (arbitrate_hideFrames s)
  exact h
@[simp] theorem arbitrate_node (s : State) : (arbitrate s).node = s.node := by
  have h := congrArg State.node (arbitrate_hideFrames s)
  exact h
@[simp] theorem arbitrate_clock (s : State) : (arbitrate s).clock = s.clock := by
  have h := congrArg State.clock (arbitrate_hideFrames s)
  exact h
@[simp] theorem arbitrate_minuteTaken (s : State) : (arbitrate s).minuteTaken = s.minuteTaken := by
  have h := congrArg State.minuteTaken (arbitrate_hideFrames s)
  exact h
@[simp] theorem arbitrate_tables (s : State) : (arbitrate s).tables = s.tables := by
  have h := congrArg State.tables (arbitrate_hideFrames s)
  exact h
@[simp] theorem arbitrate_items (s : State) : (arbitrate s).items = s.items := by
  have h := congrArg State.items (arbitrate_hideFrames s)
  exact h
@[simp] theorem arbitrate_staged (s : State) : (arbitrate s).staged = s.staged := by
  have h := congrArg State.staged (arbitrate_hideFrames s)
  exact h
@[simp] theorem arbitrate_counts (s : State) : (arbitrate s).counts = s.counts := by
  have h := congrArg State.counts (arbitrate_hideFrames s)
  exact h
@[simp] theorem arbitrate_channels (s : State) : (arbitrate s).channels = s.channels := by
  have h := congrArg State.channels (arbitrate_hideFrames s)
  exact h
@[simp] theorem arbitrate_insts (s : State) : (arbitrate s).insts = s.insts := by
  have h := congrArg State.insts (arbitrate_hideFrames s)
  exact h
@[simp] theorem arbitrate_ice (s : State) : (arbitrate s).ice = s.ice := by
  have h := congrArg State.ice (arbitrate_hideFrames s)
  exact h
@[simp] theorem arbitrate_points (s : State) : (arbitrate s).points = s.points := by
  have h := congrArg State.points (arbitrate_hideFrames s)
  exact h
@[simp] theorem arbitrate_scheduleDay (s : State) : (arbitrate s).scheduleDay = s.scheduleDay := by
  have h := congrArg State.scheduleDay (arbitrate_hideFrames s)
  exact h
@[simp] theorem arbitrate_slots (s : State) : (arbitrate s).slots = s.slots := by
  have h := congrArg State.slots (arbitrate_hideFrames s)
  exact h
@[simp] theorem arbitrate_mgmt (s : State) : (arbitrate s).mgmt = s.mgmt := by
  have h := congrArg State.mgmt (arbitrate_hideFrames s)
  exact h
@[simp] theorem arbitrate_generation (s : State) : (arbitrate s).generation = s.generation := by
  have h := congrArg State.generation (arbitrate_hideFrames s)
  exact h
@[simp] theorem arbitrate_landing (s : State) : (arbitrate s).landing = s.landing := by
  have h := congrArg State.landing (arbitrate_hideFrames s)
  exact h
@[simp] theorem arbitrate_analysis (s : State) : (arbitrate s).analysis = s.analysis := by
  have h := congrArg State.analysis (arbitrate_hideFrames s)
  exact h
@[simp] theorem arbitrate_channelReport (s : State) : (arbitrate s).channelReport = s.channelReport := by
  have h := congrArg State.channelReport (arbitrate_hideFrames s)
  exact h
@[simp] theorem arbitrate_gridReport (s : State) : (arbitrate s).gridReport = s.gridReport := by
  have h := congrArg State.gridReport (arbitrate_hideFrames s)
  exact h
@[simp] theorem arbitrate_errors (s : State) : (arbitrate s).errors = s.errors := by
  have h := congrArg State.errors (arbitrate_hideFrames s)
  exact h
@[simp] theorem arbitrate_pending (s : State) : (arbitrate s).pending = s.pending := by
  have h := congrArg State.pending (arbitrate_hideFrames s)
  exact h

@[simp] theorem arbitrate_noticeQueue (s : State) : (arbitrate s).notices.queue = s.notices.queue := by
  have h := congrArg (fun t => t.notices.queue) (arbitrate_hideFrames s)
  exact h

@[simp] theorem arbitrate_noticeNext (s : State) : (arbitrate s).notices.next = s.notices.next := by
  have h := congrArg (fun t => t.notices.next) (arbitrate_hideFrames s)
  exact h

theorem hideFrames_turbine {s t : State} (h : t.hideFrames = s.hideFrames) (k : Fin 8) :
    { t.turbines[k] with advisory := .quiet } = { s.turbines[k] with advisory := .quiet } := by
  have hk := congrArg (fun u : State => u.turbines[k]) h
  simpa only [State.hideFrames, tabulate_get] using hk

/-- States that agree under `hideFrames` agree in every turbine but for its advisory mechanism. -/
theorem turbine_of_hideFrames {s t : State} (h : t.hideFrames = s.hideFrames) (k : Fin 8) :
    t.turbines[k] = { s.turbines[k] with advisory := t.turbines[k].advisory } := by
  have hk := congrArg (fun x : Turbine => { x with advisory := t.turbines[k].advisory }) (hideFrames_turbine h k)
  exact hk

theorem health_of_hideFrames {s t : State} (h : t.hideFrames = s.hideFrames) (p : Port) :
    (t.link.port p).health = (s.link.port p).health := by
  cases p with
  | field =>
    have hp := congrArg (fun u : State => u.link.field.health) h
    exact hp
  | station =>
    have hp := congrArg (fun u : State => u.link.station.health) h
    exact hp

section
variable {s : State} {p q : Port}

theorem State.modPort_port (s : State) (p : Port) (f : PortState → PortState) :
    (s.modPort p f).link.port p = f (s.link.port p) := Link.modPort_same _ _ _

theorem State.modPort_other (s : State) (f : PortState → PortState) (h : q ≠ p) :
    (s.modPort p f).link.port q = s.link.port q := Link.modPort_other _ _ _ _ h

/-! ### The advisory that the field arbiter takes (R15, R188) -/

/-- The choice between the best turbine so far and one more. -/
def betterAdvisory (s : State) (best : Option (Fin 8 × Curtail × Nat)) (k : Fin 8) : Option (Fin 8 × Curtail × Nat) :=
  match s.turbines[k].advisory.waiting, best with
  | none, _ => best
  | some (v, since), none => some (k, v, since)
  | some (v, since), some (_, _, least) => if since < least then some (k, v, since) else best

theorem State.nextAdvisory_eq (s : State) :
    s.nextAdvisory = ((List.finRange 8).foldl (betterAdvisory s) none).map fun b => (b.1, b.2.1) := rfl

/-- The best among the turbines of a list: none of them waits, or it waits longest, the lower number between equals. -/
def BestOf (s : State) (l : List (Fin 8)) : Option (Fin 8 × Curtail × Nat) → Prop
  | none => ∀ j ∈ l, s.turbines[j].advisory.waiting = none
  | some (k, v, since) => s.turbines[k].advisory.waiting = some (v, since) ∧
      ∀ j ∈ l, ∀ w at', s.turbines[j].advisory.waiting = some (w, at') → since < at' ∨ (since = at' ∧ k ≤ j)

theorem BestOf.snoc {l : List (Fin 8)} {best : Option (Fin 8 × Curtail × Nat)} (h : BestOf s l best) {k : Fin 8}
    (hk : ∀ b ∈ best, b.1 < k) : BestOf s (l ++ [k]) (betterAdvisory s best k) := by
  have hmem : ∀ j ∈ l ++ [k], j ∈ l ∨ j = k := fun j hj =>
    (List.mem_append.mp hj).imp_right List.mem_singleton.mp
  cases hwait : s.turbines[k].advisory.waiting with
  | none =>
    have hsame : betterAdvisory s best k = best := by cases best <;> simp only [betterAdvisory, hwait]
    rw [hsame]
    cases best with
    | none => exact fun j hj => (hmem j hj).elim (h j) fun e => e ▸ hwait
    | some b =>
      refine ⟨h.1, fun j hj w at' hj' => (hmem j hj).elim (fun hj => h.2 j hj w at' hj') fun e => ?_⟩
      rw [e, hwait] at hj'
      cases hj'
  | some a =>
    obtain ⟨v, since⟩ := a
    cases best with
    | none =>
      simp only [betterAdvisory, hwait]
      refine ⟨hwait, fun j hj w at' hj' => (hmem j hj).elim (fun hj => ?_) fun e => ?_⟩
      · rw [h j hj] at hj'; cases hj'
      · rw [e, hwait] at hj'; cases hj'; exact .inr ⟨rfl, e.ge⟩
    | some b =>
      obtain ⟨b, v', least⟩ := b
      obtain ⟨hbest, hleast⟩ := h
      simp only [betterAdvisory, hwait]
      split
      next hlt =>
        refine ⟨hwait, fun j hj w at' hj' => (hmem j hj).elim (fun hj => ?_) fun e => ?_⟩
        · rcases hleast j hj w at' hj' with h | ⟨h, -⟩ <;> exact .inl (by omega)
        · rw [e, hwait] at hj'; cases hj'; exact .inr ⟨rfl, e.ge⟩
      next hge =>
        refine ⟨hbest, fun j hj w at' hj' => (hmem j hj).elim (fun hj => hleast j hj w at' hj') fun e => ?_⟩
        rw [e, hwait] at hj'
        cases hj'
        have hbk : b < k := hk _ rfl
        rcases Nat.lt_or_ge least since with h | h
        · exact .inl h
        · exact .inr ⟨by omega, e ▸ hbk.le⟩

theorem betterAdvisory_mem {best : Option (Fin 8 × Curtail × Nat)} {k : Fin 8} {b : Fin 8 × Curtail × Nat}
    (h : b ∈ betterAdvisory s best k) : b ∈ best ∨ b.1 = k := by
  unfold betterAdvisory at h
  split at h
  · exact .inl h
  · cases h; exact .inr rfl
  · split at h
    · cases h; exact .inr rfl
    · exact .inl h

theorem bestOf_foldl (l : List (Fin 8)) (pre : List (Fin 8)) (best : Option (Fin 8 × Curtail × Nat))
    (hord : l.Pairwise (· < ·)) (hbest : ∀ b ∈ best, ∀ k ∈ l, b.1 < k) (h : BestOf s pre best) :
    BestOf s (pre ++ l) (l.foldl (betterAdvisory s) best) := by
  induction l generalizing pre best with
  | nil => simpa using h
  | cons k l ih =>
    obtain ⟨hk, hl⟩ := List.pairwise_cons.mp hord
    have hnext := ih (pre ++ [k]) (betterAdvisory s best k) hl (fun b hb j hj => ?_)
      (h.snoc fun b hb => hbest b hb k List.mem_cons_self)
    · simpa using hnext
    · rcases betterAdvisory_mem hb with hb | rfl
      · exact hbest b hb j (List.mem_cons_of_mem k hj)
      · exact hk j hj

theorem bestOf_all (s : State) : BestOf s (List.finRange 8) ((List.finRange 8).foldl (betterAdvisory s) none) :=
  bestOf_foldl (List.finRange 8) [] none (List.pairwise_lt_finRange 8) (by simp) (by simp [BestOf])

theorem waiting_iff (a : Advisory) (v : Curtail) (since : Nat) : a.waiting = some (v, since) ↔ a = .pending v since := by
  cases a <;> simp [Advisory.waiting]

/-- A turbine that the field arbiter takes is PENDING. -/
theorem nextAdvisory_pending {k : Fin 8} {v : Curtail} (h : s.nextAdvisory = some (k, v)) :
    ∃ since, s.turbines[k].advisory = .pending v since := by
  have hbest := bestOf_all s
  rw [State.nextAdvisory_eq] at h
  obtain ⟨⟨k', v', since⟩, hb, heq⟩ := Option.map_eq_some_iff.mp h
  cases heq
  rw [hb] at hbest
  exact ⟨since, (waiting_iff _ _ _).mp hbest.1⟩

theorem nextAdvisory_none (h : ∀ k : Fin 8, s.turbines[k].advisory.waiting = none) : s.nextAdvisory = none := by
  cases hn : s.nextAdvisory with
  | none => rfl
  | some b =>
    obtain ⟨since, hp⟩ := nextAdvisory_pending (k := b.1) (v := b.2) hn
    have := h b.1
    rw [hp] at this
    cases this

/-- The turbine that waits longest is the one taken. -/
theorem nextAdvisory_of_longest {k : Fin 8} {v : Curtail} {since : Nat} (hk : s.turbines[k].advisory = .pending v since)
    (hmin : ∀ (j : Fin 8) (w : Curtail) (at' : Nat), s.turbines[j].advisory = .pending w at' →
      since < at' ∨ (since = at' ∧ k ≤ j)) : s.nextAdvisory = some (k, v) := by
  have hwait := (waiting_iff _ v since).mpr hk
  have hbest := bestOf_all s
  rw [State.nextAdvisory_eq]
  cases hb : (List.finRange 8).foldl (betterAdvisory s) none with
  | none =>
    rw [hb] at hbest
    rw [hbest k (List.mem_finRange k)] at hwait
    cases hwait
  | some b =>
    obtain ⟨j, w, at'⟩ := b
    rw [hb] at hbest
    obtain ⟨hj, hleast⟩ := hbest
    have hjk := hleast k (List.mem_finRange k) v since hwait
    have hkj := hmin j w at' ((waiting_iff _ _ _).mp hj)
    have heq : j = k := by omega
    subst heq
    rw [hj] at hwait
    cases hwait
    rfl

/-! ### What a port holds after its arbiter's choice (R187) -/

theorem modPort_id_of {f : PortState → PortState} (h : f (s.link.port p) = s.link.port p) : s.modPort p f = s := by
  cases p with
  | field =>
    have h' : f s.link.field = s.link.field := h
    simp only [State.modPort, Link.modPort, h']
  | station =>
    have h' : f s.link.station = s.link.station := h
    simp only [State.modPort, Link.modPort, h']

theorem arbiter_of_busy (h : (s.link.port p).sending.isSome = true) : arbiter p s = s := if_pos h

theorem arbiter_of_nothing (hfree : (s.link.port p).sending = none) (hown : s.ownWaiting p = false)
    (hbuf : (s.link.port p).buffer = []) : arbiter p s = s := by
  simp only [arbiter, hfree, hown, Option.isSome_none, Bool.false_eq_true, if_false]
  exact modPort_id_of (by rw [hbuf])

theorem beginForward_port {f : List Byte} {rest : List (List Byte)} (hbuf : (s.link.port p).buffer = f :: rest) (n : Nat) :
    (beginForward p n s).link.port p =
      { s.link.port p with buffer := rest, sending := some (.forwarded f), runCount := n } := by
  rw [beginForward, State.modPort_port, hbuf]

theorem arbiter_forwards {f : List Byte} {rest : List (List Byte)} (hfree : (s.link.port p).sending = none)
    (hown : s.ownWaiting p = false) (hbuf : (s.link.port p).buffer = f :: rest) :
    (arbiter p s).link.port p =
      { s.link.port p with buffer := rest, sending := some (.forwarded f), runCount := 0 } := by
  simp only [arbiter, hfree, hown, Option.isSome_none, Bool.false_eq_true, if_false]
  exact beginForward_port hbuf 0

theorem arbiter_forwards_first {f : List Byte} {rest : List (List Byte)} (hfree : (s.link.port p).sending = none)
    (hown : s.ownWaiting p = true) (hbuf : (s.link.port p).buffer = f :: rest) (hrun : (s.link.port p).runCount < 8) :
    (arbiter p s).link.port p =
      { s.link.port p with
        buffer := rest, sending := some (.forwarded f), runCount := (s.link.port p).runCount + 1 } := by
  have hgo : (s.link.port p).buffer.isEmpty = false ∧ (s.link.port p).runCount < Config.runLimit := by
    rw [hbuf]; exact ⟨rfl, hrun⟩
  simp only [arbiter, hfree, hown, Option.isSome_none, Bool.false_eq_true, if_false, if_true, if_pos hgo]
  exact beginForward_port hbuf _

/-- The arbiter begins an own frame with the run count at 0. -/
theorem arbiter_begins_own (hfree : (s.link.port p).sending = none) (hown : s.ownWaiting p = true)
    (hrun : (s.link.port p).buffer = [] ∨ 8 ≤ (s.link.port p).runCount) :
    arbiter p s = beginOwn p (s.modPort p fun x => { x with runCount := 0 }) := by
  have hstop : ¬ ((s.link.port p).buffer.isEmpty = false ∧ (s.link.port p).runCount < Config.runLimit) := by
    rintro ⟨hbuf, hlt⟩
    rcases hrun with h | h
    · rw [h] at hbuf; cases hbuf
    · exact absurd hlt (Nat.not_lt.mpr h)
  simp only [arbiter, hfree, hown, Option.isSome_none, Bool.false_eq_true, if_false, if_true, if_neg hstop]

/-- An own frame that waits is begun, and it is no forwarded one. -/
theorem beginOwn_port (hown : s.ownWaiting p = true) :
    ∃ x, (beginOwn p s).link.port p = { s.link.port p with sending := some x } ∧ ∀ f, x ≠ .forwarded f := by
  cases p with
  | field =>
    simp only [State.ownWaiting, Bool.and_eq_true] at hown
    obtain ⟨⟨k, v⟩, hnext⟩ := Option.isSome_iff_exists.mp hown.2
    simp only [beginOwn, beginFieldOwn, hnext]
    exact ⟨_, rfl, nofun⟩
  | station =>
    simp only [State.ownWaiting, Bool.and_eq_true, Bool.or_eq_true] at hown
    simp only [beginOwn, beginStationOwn]
    split
    · exact ⟨_, rfl, nofun⟩
    next hnone =>
      obtain ⟨-, hreply | ⟨-, hhead⟩⟩ := hown
      · rw [hnone] at hreply; cases hreply
      · obtain ⟨n, hn⟩ := Option.isSome_iff_exists.mp hhead
        rw [hn]
        exact ⟨_, rfl, nofun⟩

theorem arbiter_own_port (hfree : (s.link.port p).sending = none) (hown : s.ownWaiting p = true)
    (hrun : (s.link.port p).buffer = [] ∨ 8 ≤ (s.link.port p).runCount) :
    ∃ x, (arbiter p s).link.port p = { s.link.port p with sending := some x, runCount := 0 } ∧ ∀ f, x ≠ .forwarded f := by
  rw [arbiter_begins_own hfree hown hrun]
  have hown' : (s.modPort p fun x => { x with runCount := 0 }).ownWaiting p = true := by cases p <;> exact hown
  obtain ⟨x, hx, hforward⟩ := beginOwn_port hown'
  exact ⟨x, by rw [hx, State.modPort_port], hforward⟩

/-! ### One arbiter beside the other -/

/-- An arbiter writes its own port; the field arbiter otherwise only advisory mechanisms, the station arbiter the notice in
transmission. -/
theorem beginOwn_field_eq (s : State) : ∃ v x, beginOwn .field s =
    { s with turbines := v, link := { s.link with field := x } } := by
  simp only [beginOwn, beginFieldOwn]
  split
  · exact ⟨_, _, rfl⟩
  · exact ⟨s.turbines, s.link.field, rfl⟩

theorem beginOwn_station_eq (s : State) : ∃ n x, beginOwn .station s =
    { s with notices := n, link := { s.link with station := x } } := by
  simp only [beginOwn, beginStationOwn]
  split
  · exact ⟨s.notices, _, rfl⟩
  · split
    · exact ⟨_, _, rfl⟩
    · exact ⟨s.notices, s.link.station, rfl⟩

theorem arbiter_field_eq (s : State) : ∃ v x, arbiter .field s =
    { s with turbines := v, link := { s.link with field := x } } := by
  simp only [arbiter]
  split
  · exact ⟨s.turbines, s.link.field, rfl⟩
  · split
    · split
      · exact ⟨s.turbines, _, rfl⟩
      · obtain ⟨v, x, heq⟩ := beginOwn_field_eq (s.modPort .field fun x => { x with runCount := 0 })
        exact ⟨v, x, heq⟩
    · exact ⟨s.turbines, _, rfl⟩

theorem arbiter_station_eq (s : State) : ∃ n x, arbiter .station s =
    { s with notices := n, link := { s.link with station := x } } := by
  simp only [arbiter]
  split
  · exact ⟨s.notices, s.link.station, rfl⟩
  · split
    · split
      · exact ⟨s.notices, _, rfl⟩
      · obtain ⟨n, x, heq⟩ := beginOwn_station_eq (s.modPort .station fun x => { x with runCount := 0 })
        exact ⟨n, x, heq⟩
    · exact ⟨s.notices, _, rfl⟩

theorem arbitrate_field_port (s : State) : (arbitrate s).link.port .field = (arbiter .field s).link.port .field := by
  obtain ⟨n, x, heq⟩ := arbiter_station_eq (arbiter .field s)
  rw [arbitrate, heq]
  rfl

theorem arbitrate_turbines (s : State) : (arbitrate s).turbines = (arbiter .field s).turbines := by
  obtain ⟨n, x, heq⟩ := arbiter_station_eq (arbiter .field s)
  rw [arbitrate, heq]

theorem arbiter_field_station (s : State) : (arbiter .field s).link.port .station = s.link.port .station ∧
    (arbiter .field s).ownWaiting .station = s.ownWaiting .station := by
  obtain ⟨v, x, heq⟩ := arbiter_field_eq s
  rw [heq]
  exact ⟨rfl, rfl⟩

/-- What a port holds after both arbiters is what it held when its own arbiter chose: a port that transmits stands. -/
theorem arbitrate_busy (h : (s.link.port p).sending.isSome = true) : (arbitrate s).link.port p = s.link.port p := by
  cases p with
  | field => rw [arbitrate_field_port, arbiter_of_busy h]
  | station =>
    obtain ⟨hport, -⟩ := arbiter_field_station s
    rw [arbitrate, arbiter_of_busy (by rwa [hport]), hport]

theorem arbitrate_idle (hfree : (s.link.port p).sending = none) (hown : s.ownWaiting p = false)
    (hbuf : (s.link.port p).buffer = []) : (arbitrate s).link.port p = s.link.port p := by
  cases p with
  | field => rw [arbitrate_field_port, arbiter_of_nothing hfree hown hbuf]
  | station =>
    obtain ⟨hport, hwait⟩ := arbiter_field_station s
    rw [arbitrate, arbiter_of_nothing (by rwa [hport]) (by rwa [hwait]) (by rwa [hport]), hport]

theorem arbitrate_forwards {f : List Byte} {rest : List (List Byte)} (hfree : (s.link.port p).sending = none)
    (hown : s.ownWaiting p = false) (hbuf : (s.link.port p).buffer = f :: rest) :
    (arbitrate s).link.port p =
      { s.link.port p with buffer := rest, sending := some (.forwarded f), runCount := 0 } := by
  cases p with
  | field => rw [arbitrate_field_port, arbiter_forwards hfree hown hbuf]
  | station =>
    obtain ⟨hport, hwait⟩ := arbiter_field_station s
    rw [arbitrate, arbiter_forwards (by rwa [hport]) (by rwa [hwait]) (by rwa [hport]), hport]

theorem arbitrate_forwards_first {f : List Byte} {rest : List (List Byte)} (hfree : (s.link.port p).sending = none)
    (hown : s.ownWaiting p = true) (hbuf : (s.link.port p).buffer = f :: rest) (hrun : (s.link.port p).runCount < 8) :
    (arbitrate s).link.port p =
      { s.link.port p with
        buffer := rest, sending := some (.forwarded f), runCount := (s.link.port p).runCount + 1 } := by
  cases p with
  | field => rw [arbitrate_field_port, arbiter_forwards_first hfree hown hbuf hrun]
  | station =>
    obtain ⟨hport, hwait⟩ := arbiter_field_station s
    rw [arbitrate, arbiter_forwards_first (by rwa [hport]) (by rwa [hwait]) (by rwa [hport]) (by rwa [hport]), hport]

theorem arbitrate_own (hfree : (s.link.port p).sending = none) (hown : s.ownWaiting p = true)
    (hrun : (s.link.port p).buffer = [] ∨ 8 ≤ (s.link.port p).runCount) :
    ∃ x, (arbitrate s).link.port p = { s.link.port p with sending := some x, runCount := 0 } ∧
      ∀ f, x ≠ .forwarded f := by
  cases p with
  | field => rw [arbitrate_field_port]; exact arbiter_own_port hfree hown hrun
  | station =>
    obtain ⟨hport, hwait⟩ := arbiter_field_station s
    have hown' := arbiter_own_port (s := arbiter .field s) (p := .station) (by rwa [hport]) (by rwa [hwait]) (by rwa [hport])
    rwa [hport] at hown'

/-! ### Advisory mechanisms after the arbiters -/

/-- An own frame of the field port is the ADVISORY of a PENDING turbine, which is then SENDING. -/
theorem beginOwn_field_advisory (s : State) (k : Fin 8) :
    (beginOwn .field s).turbines[k].advisory = s.turbines[k].advisory ∨
    ∃ v since, s.turbines[k].advisory = .pending v since ∧ (beginOwn .field s).turbines[k].advisory = .sending v := by
  cases hnext : s.nextAdvisory with
  | none => exact .inl (by simp only [beginOwn, beginFieldOwn, hnext])
  | some b =>
    obtain ⟨j, v⟩ := b
    obtain ⟨since, hj⟩ := nextAdvisory_pending hnext
    have hturbines : (beginOwn .field s).turbines = upd s.turbines j fun x => { x with advisory := .sending v } := by
      simp only [beginOwn, beginFieldOwn, hnext]
      rfl
    rw [hturbines, upd_get]
    split
    next hk => subst hk; exact .inr ⟨v, since, hj, rfl⟩
    next => exact .inl rfl

/-- The arbiters only bring a PENDING advisory to SENDING (R15). -/
theorem arbitrate_advisory (s : State) (k : Fin 8) : (arbitrate s).turbines[k].advisory = s.turbines[k].advisory ∨
    ∃ v since, s.turbines[k].advisory = .pending v since ∧ (arbitrate s).turbines[k].advisory = .sending v := by
  rw [arbitrate_turbines]
  simp only [arbiter]
  split
  · exact .inl rfl
  · split
    · split
      · exact .inl rfl
      · exact beginOwn_field_advisory (s.modPort .field fun x => { x with runCount := 0 }) k
    · exact .inl rfl

theorem arbitrate_not_pending {k : Fin 8} (h : s.turbines[k].advisory.waiting = none) :
    (arbitrate s).turbines[k].advisory = s.turbines[k].advisory := by
  rcases arbitrate_advisory s k with heq | ⟨v, since, hp, -⟩
  · exact heq
  · rw [hp] at h; cases h

theorem arbitrate_due {k : Fin 8} {v : Curtail} {since : Nat} (h : s.turbines[k].advisory = .pending v since) :
    (arbitrate s).turbines[k].advisory = .pending v since ∨ (arbitrate s).turbines[k].advisory = .sending v := by
  rcases arbitrate_advisory s k with heq | ⟨v', since', hp, hs⟩
  · exact .inl (heq.trans h)
  · rw [h] at hp; cases hp; exact .inr hs

/-- The notice in transmission after the arbiters: the one before, or one of the queue that was not in transmission. -/
theorem arbitrate_sending (s : State) : (arbitrate s).notices.sending = s.notices.sending ∨
    ∃ n ∈ s.notices.queue, (arbitrate s).notices.sending = some n.number := by
  obtain ⟨v, x, hfield⟩ := arbiter_field_eq s
  have hnotices : (arbiter .field s).notices = s.notices := by rw [hfield]
  rw [arbitrate, ← hnotices]
  generalize arbiter .field s = u
  simp only [arbiter]
  split
  · exact .inl rfl
  · split
    · split
      · exact .inl rfl
      · simp only [beginOwn, beginStationOwn]
        split
        · exact .inl rfl
        · split
          next n hn => exact .inr ⟨n, head_mem hn, rfl⟩
          next => exact .inl rfl
    · exact .inl rfl

end

/-! ### The statements -/

/-- Settles O27: the begun frames as the model's two arbiters write them; the turbine that waits longest is the one the
field arbiter's fold finds. -/
theorem ownFrameOrder : Obligations.OwnFrameOrder := by
  refine ⟨fun r s hr => ?_, fun n s hr hn => ?_, fun k v since s hk hmin => ?_⟩
  · simp only [beginOwn, beginStationOwn, hr]
    rfl
  · simp only [beginOwn, beginStationOwn, hr, hn]
    exact ⟨rfl, rfl⟩
  · simp only [beginOwn, beginFieldOwn, nextAdvisory_of_longest hk hmin]
    exact ⟨congrArg Turbine.advisory (upd_same s.turbines k _), fun j hj => upd_other s.turbines k j _ hj, rfl⟩

/-- Settles O28: the completion frees the port, and the arbiter's choice has the four cases of R187. -/
theorem forwardedCompletionChoosesNext : Obligations.ForwardedCompletionChoosesNext := by
  intro p b s hlow hsending
  have hfree : completeForwarded p s = freePort p s := by simp only [completeForwarded, hsending]
  have hport : (freePort p s).link.port p = { s.link.port p with sending := none } := State.modPort_port _ _ _
  have hnone : ((freePort p s).link.port p).sending = none := by rw [hport]
  have hwait : (freePort p s).ownWaiting p = s.ownWaiting p := by cases p <;> rfl
  refine ⟨arbitrate (freePort p s), (live_next _ hlow).trans (by rw [hfree]), ?_, ?_, ?_, ?_, ?_⟩
  · rw [arbitrate_hideFrames]
    exact State.modPort_hideFrames _ _ _ fun _ => rfl
  · intro hown hbuf
    rw [arbitrate_idle hnone (hwait.trans hown) (by rw [hport, hbuf]), hport]
  · intro f rest hown hbuf
    rw [arbitrate_forwards (rest := rest) (f := f) hnone (hwait.trans hown) (by rw [hport, hbuf]), hport]
  · intro f rest hown hbuf hrun
    rw [arbitrate_forwards_first (rest := rest) (f := f) hnone (hwait.trans hown) (by rw [hport, hbuf])
      (by rwa [hport]), hport]
  · intro hown hrun
    obtain ⟨x, hx, hforward⟩ := arbitrate_own hnone (hwait.trans hown) (by rwa [hport])
    exact ⟨x, by rw [hx, hport], hforward⟩

/-- Settles O29: the completed notice leaves the queue, and the arbiter begins none that is not queued. -/
theorem noticeCompletionRemovesNotice : Obligations.NoticeCompletionRemovesNotice := by
  intro b k s hlow hsending hk
  let q : NoticeQueue := { s.notices with queue := s.notices.queue.filter fun x => x.number ≠ k, sending := none }
  have hdone : completeNotice s = freePort .station { s with notices := q } := by
    simp only [completeNotice, hsending, hk]
    congr 3
    exact List.filter_congr fun x _ => by simp [eq_comm]
  refine ⟨_, live_next _ hlow, ?_, ?_⟩
  · rw [arbitrate_hideFrames, hdone]
    exact State.modPort_hideFrames _ _ _ fun _ => rfl
  · rw [hdone]
    rcases arbitrate_sending (freePort .station { s with notices := q }) with h | ⟨n, hn, h⟩
    · rw [h]; exact nofun
    · rw [h]
      have hne : n.number ≠ k := of_decide_eq_true (List.mem_filter.mp hn).2
      exact fun heq => hne (Option.some.inj heq)

/-- Settles O30: the mechanism moves by R15, and the arbiter may begin what is PENDING. -/
theorem advisoryCompletionMoves : Obligations.AdvisoryCompletionMoves := by
  intro k b s hlow hsending
  let u : State := freePort .field (s.modTurbine k fun x =>
    { x with advisory := x.advisory.complete s.tables.turbines[k].inService x.curtail s.now })
  have hdone : completeAdvisory s = u := by simp only [completeAdvisory, hsending]; rfl
  have hk : u.turbines[k].advisory =
      s.turbines[k].advisory.complete s.tables.turbines[k].inService s.turbines[k].curtail s.now :=
    congrArg Turbine.advisory (upd_same s.turbines k _)
  refine ⟨arbitrate u, (live_next _ hlow).trans (by rw [hdone]), ?_, ?_, ?_, ?_, ?_⟩
  · rw [arbitrate_hideFrames]
    exact (State.modPort_hideFrames _ .field _ fun _ => rfl).trans (State.modTurbine_hideFrames s k _ fun _ => rfl)
  · intro v hv hservice
    have hquiet : u.turbines[k].advisory = .quiet := by rw [hk, hv, hservice]; rfl
    rw [arbitrate_not_pending (by rw [hquiet]; rfl), hquiet]
  · intro v hv hservice hcurtail
    have hstands : u.turbines[k].advisory = if v = .none then .quiet else .holding (s.clock.counter + 10000) := by
      rw [hk, hv, hservice, hcurtail]
      simp only [Advisory.complete, Bool.not_true, Bool.false_eq_true, if_false, ne_eq, not_true]
      rfl
    rw [arbitrate_not_pending (by rw [hstands]; split <;> rfl), hstands]
  · intro v hv hservice hcurtail
    refine arbitrate_due (since := s.clock.counter) ?_
    rw [hk, hv, hservice]
    simp only [Advisory.complete, Bool.not_true, Bool.false_eq_true, if_false, if_pos hcurtail]
    rfl
  · intro v w since hv
    refine arbitrate_due (since := since) ?_
    rw [hk, hv]
    rfl

end Sys2Proof.Machine
end

section
/-! PROOFS. The management unit: how a request command reaches it, what a request leaves alone, the checks of R198, and
the requests that read, stage and answer (R197 to R201, R206, R207, R209). -/

namespace Sys2Proof.Machine

/-! ### What states that agree under `hideFrames` share -/

section
variable {s t : State}

theorem State.tables_of_hideFrames (h : t.hideFrames = s.hideFrames) : t.tables = s.tables := by
  have hf := congrArg State.tables h; exact hf
theorem State.staged_of_hideFrames (h : t.hideFrames = s.hideFrames) : t.staged = s.staged := by
  have hf := congrArg State.staged h; exact hf
theorem State.items_of_hideFrames (h : t.hideFrames = s.hideFrames) : t.items = s.items := by
  have hf := congrArg State.items h; exact hf
theorem State.counts_of_hideFrames (h : t.hideFrames = s.hideFrames) : t.counts = s.counts := by
  have hf := congrArg State.counts h; exact hf
theorem State.channels_of_hideFrames (h : t.hideFrames = s.hideFrames) : t.channels = s.channels := by
  have hf := congrArg State.channels h; exact hf
theorem State.insts_of_hideFrames (h : t.hideFrames = s.hideFrames) : t.insts = s.insts := by
  have hf := congrArg State.insts h; exact hf
theorem State.ice_of_hideFrames (h : t.hideFrames = s.hideFrames) : t.ice = s.ice := by
  have hf := congrArg State.ice h; exact hf
theorem State.points_of_hideFrames (h : t.hideFrames = s.hideFrames) : t.points = s.points := by
  have hf := congrArg State.points h; exact hf
theorem State.slots_of_hideFrames (h : t.hideFrames = s.hideFrames) : t.slots = s.slots := by
  have hf := congrArg State.slots h; exact hf
theorem State.scheduleDay_of_hideFrames (h : t.hideFrames = s.hideFrames) : t.scheduleDay = s.scheduleDay := by
  have hf := congrArg State.scheduleDay h; exact hf
theorem State.generation_of_hideFrames (h : t.hideFrames = s.hideFrames) : t.generation = s.generation := by
  have hf := congrArg State.generation h; exact hf
theorem State.landing_of_hideFrames (h : t.hideFrames = s.hideFrames) : t.landing = s.landing := by
  have hf := congrArg State.landing h; exact hf
theorem State.analysis_of_hideFrames (h : t.hideFrames = s.hideFrames) : t.analysis = s.analysis := by
  have hf := congrArg State.analysis h; exact hf
theorem State.channelReport_of_hideFrames (h : t.hideFrames = s.hideFrames) : t.channelReport = s.channelReport := by
  have hf := congrArg State.channelReport h; exact hf
theorem State.gridReport_of_hideFrames (h : t.hideFrames = s.hideFrames) : t.gridReport = s.gridReport := by
  have hf := congrArg State.gridReport h; exact hf
theorem State.errors_of_hideFrames (h : t.hideFrames = s.hideFrames) : t.errors = s.errors := by
  have hf := congrArg State.errors h; exact hf
theorem State.mgmt_of_hideFrames (h : t.hideFrames = s.hideFrames) : t.mgmt = s.mgmt := by
  have hf := congrArg State.mgmt h; exact hf
theorem State.clock_of_hideFrames (h : t.hideFrames = s.hideFrames) : t.clock = s.clock := by
  have hf := congrArg State.clock h; exact hf
theorem State.node_of_hideFrames (h : t.hideFrames = s.hideFrames) : t.node = s.node := by
  have hf := congrArg State.node h; exact hf
theorem State.queue_of_hideFrames (h : t.hideFrames = s.hideFrames) : t.notices.queue = s.notices.queue := by
  have hf := congrArg (fun u : State => u.notices.queue) h; exact hf
theorem State.next_of_hideFrames (h : t.hideFrames = s.hideFrames) : t.notices.next = s.notices.next := by
  have hf := congrArg (fun u : State => u.notices.next) h; exact hf

theorem State.curtail_of_hideFrames (h : t.hideFrames = s.hideFrames) (k : Fin 8) :
    t.turbines[k].curtail = s.turbines[k].curtail := by rw [turbine_of_hideFrames h k]

end

/-! ### A request command -/

/-- A request command brings its request to the management unit. -/
theorem exec_of_requestOf {c : Instr} {q : QueuedRequest} (h : requestOf c = some q) (s : State) :
    exec c s = live (request q.code q.rq) s := by
  cases c <;> cases h <;> rfl

/-- What a ready part answers: the effect and the answer of `carryOut`, however they are written. -/
theorem live_request {code : Byte} {rq : Request} {s : State} (hready : s.ready)
    (hclock : (carryOut ⟨code, rq⟩ s).1.clock = s.clock) :
    ∃ t, live (request code rq) s = .next t ∧
      ∀ s' a, carryOut ⟨code, rq⟩ s = (s', a) → t.hideFrames = (s'.answered code rq a).hideFrames := by
  obtain ⟨t, ht, hans⟩ := live_request_answered hready (s' := (carryOut ⟨code, rq⟩ s).1) (a := (carryOut ⟨code, rq⟩ s).2)
    rfl hclock
  exact ⟨t, ht, fun s' a h => by rw [hans, h]⟩

/-! ### What carrying a request out leaves alone -/

/-- The management unit, the clock, the ports and the node number stand. -/
def KeepsUnit (s t : State) : Prop := t.mgmt = s.mgmt ∧ t.clock = s.clock ∧ t.link = s.link ∧ t.node = s.node

section
variable {s t u : State}

theorem KeepsUnit.refl : KeepsUnit s s := ⟨rfl, rfl, rfl, rfl⟩

theorem KeepsUnit.trans (h : KeepsUnit s t) (h' : KeepsUnit t u) : KeepsUnit s u := by
  obtain ⟨hm, hc, hl, hn⟩ := h
  obtain ⟨hm', hc', hl', hn'⟩ := h'
  exact ⟨hm'.trans hm, hc'.trans hc, hl'.trans hl, hn'.trans hn⟩

theorem KeepsUnit.of_shell (h : t.shell = s.shell) : KeepsUnit s t :=
  ⟨State.mgmt_of_shell h, State.clock_of_shell h, State.link_of_shell h, State.node_of_shell h⟩

theorem sized_keepsUnit {n : Nat} {rq : Request} {f : State × Answer} (hf : KeepsUnit s f.1) :
    KeepsUnit s (sized n rq s f).1 := by
  unfold sized
  split
  · exact hf
  · exact ⟨rfl, rfl, rfl, rfl⟩

theorem indexed_keepsUnit {m n : Nat} {f : Fin m → State × Answer} (hf : ∀ i, KeepsUnit s (f i).1) :
    KeepsUnit s (indexed m n s f).1 := by
  unfold indexed
  split
  · exact hf _
  · exact .refl

theorem storeEntries_keepsUnit (tc : TableCode) (es : List (Nat × List Byte)) (s : State) :
    KeepsUnit s (storeEntries tc es s).1 := by
  have hflag : KeepsUnit s (if ReplyStatus.readOnly ∈ (stageAll tc es s.staged).2 then s.setReadOnlyWrite else s) := by
    split
    · exact ⟨rfl, rfl, rfl, rfl⟩
    · exact .refl
  simp only [storeEntries]
  split
  · exact hflag
  · exact hflag

theorem stageEntries_keepsUnit (rq : Request) (s : State) : KeepsUnit s (stageEntries rq s).1 := by
  simp only [stageEntries]
  split
  · exact ⟨rfl, rfl, rfl, rfl⟩
  · split
    · exact ⟨rfl, rfl, rfl, rfl⟩
    · split
      · split
        · exact .refl
        · exact storeEntries_keepsUnit _ _ _
      · exact ⟨rfl, rfl, rfl, rfl⟩

theorem readTable_keepsUnit (rq : Request) (record : TableCode → Nat → List Byte) (s : State) :
    KeepsUnit s (readTable rq record s).1 := by
  refine sized_keepsUnit ?_
  split
  · exact ⟨rfl, rfl, rfl, rfl⟩
  · dsimp only
    split
    · exact .refl
    · exact .refl

theorem readResults_keepsUnit (rq : Request) (s : State) : KeepsUnit s (readResults rq s).1 := by
  simp only [readResults]
  split
  · exact ⟨rfl, rfl, rfl, rfl⟩
  · split
    · exact .refl
    · split
      · exact .refl
      · exact .refl

theorem setDeliveryMode_keepsUnit (rq : Request) (s : State) : KeepsUnit s (setDeliveryMode rq s).1 := by
  refine sized_keepsUnit ?_
  split
  · exact .refl
  · split
    · exact .refl
    · exact ⟨rfl, rfl, rfl, rfl⟩

theorem withdrawNotices_keepsUnit (rq : Request) (s : State) : KeepsUnit s (withdrawNotices rq s).1 := by
  refine sized_keepsUnit ?_
  split
  · exact ⟨rfl, rfl, rfl, rfl⟩
  · exact indexed_keepsUnit fun _ => ⟨rfl, rfl, rfl, rfl⟩

theorem captureChannel_keepsUnit (rq : Request) (s : State) : KeepsUnit s (captureChannel rq s).1 := by
  refine sized_keepsUnit (indexed_keepsUnit fun c => ?_)
  split
  · exact .refl
  · exact ⟨rfl, rfl, rfl, rfl⟩

theorem readCapture_keepsUnit (rq : Request) (s : State) : KeepsUnit s (readCapture rq s).1 := by
  refine sized_keepsUnit (indexed_keepsUnit fun k => ?_)
  dsimp only
  split
  · exact .refl
  · exact .refl
  · split
    · exact .refl
    · exact .refl

theorem releaseCapture_keepsUnit (rq : Request) (s : State) : KeepsUnit s (releaseCapture rq s).1 := by
  refine sized_keepsUnit (indexed_keepsUnit fun k => ?_)
  split
  · exact .refl
  · exact .refl
  · exact ⟨rfl, rfl, rfl, rfl⟩

theorem replaceEffects_shell (n : Fin 96) (s : State) : (replaceEffects n s).shell = s.shell :=
  Moves.shell (replaceEffects_moves (W := .all) n (fun _ => trivial) (fun _ => trivial) .refl)

theorem doneRequest_keepsUnit (rq : Request) (s : State) : KeepsUnit s (doneRequest rq s).1 := by
  refine sized_keepsUnit (indexed_keepsUnit fun n => ?_)
  unfold doneEntry
  split
  · split
    · exact .refl
    · exact .of_shell ((replaceEffects_shell _ _).trans (evaluate_shell _ _))
  · exact .refl

theorem deferRequest_keepsUnit (rq : Request) (s : State) : KeepsUnit s (deferRequest rq s).1 := by
  refine sized_keepsUnit (indexed_keepsUnit fun n => ?_)
  unfold deferEntry
  split
  · exact .refl
  · split
    · exact .refl
    · exact .of_shell (evaluate_shell _ _)

theorem applyMaintenance_keepsUnit (graceChanged : Bool) (s : State) : KeepsUnit s (applyMaintenance graceChanged s) := by
  have hloads : KeepsUnit s { s with items := loadedItems s, staged := { s.staged with marks := Vector.replicate 96 false } } :=
    .refl
  refine hloads.trans (.of_shell (forAll_shell (fun n t => ?_) _))
  split
  · exact evaluate_shell _ _
  · rfl

theorem applyBlocks_shell (old : Tables) (s : State) : (applyBlocks old s).shell = s.shell :=
  Moves.shell (applyBlocks_moves (W := .all) old trivial (fun _ => trivial) (fun _ => trivial) trivial trivial
    (fun _ => trivial) (fun _ => trivial) trivial .refl)

theorem applyEffect_keepsUnit (s : State) : KeepsUnit s (applyEffect s) := by
  have hland : KeepsUnit s (landTables s) := .refl
  rw [applyEffect_eq]
  exact ((hland.trans (.of_shell (applyBlocks_shell _ _))).trans (applyMaintenance_keepsUnit _ _)).trans
    (.of_shell (suspendCheck_shell _))

theorem applyRequest_keepsUnit (rq : Request) (s : State) : KeepsUnit s (applyRequest rq s).1 := by
  refine sized_keepsUnit ?_
  split
  · exact .refl
  · exact applyEffect_keepsUnit s

theorem suspendAnalysis_shell (s : State) : (suspendAnalysis s).shell = s.shell :=
  Moves.shell (suspendAnalysis_moves Footprint.all_runs (fun _ => trivial) trivial .refl)

theorem resumeAnalysis_shell (s : State) : (resumeAnalysis s).shell = s.shell :=
  Moves.shell (resumeAnalysis_moves Footprint.all_runs (fun _ => trivial) trivial .refl)

theorem restartQuiet_shell (s : State) : (restartQuiet s).shell = s.shell := rfl
theorem restartInsts_shell (s : State) : (restartInsts s).shell = s.shell := rfl
theorem restartTurbines_shell (s : State) : (restartTurbines s).shell = s.shell := rfl
theorem restartNotices_shell (s : State) : (restartNotices s).shell = s.shell := rfl

theorem restartProcessingEffect_shell (s : State) : (restartProcessingEffect s).shell = s.shell := by
  rw [restartProcessingEffect, restartNotices_shell, forAll_shell restartPoint_shell, restartTurbines_shell,
    restartInsts_shell, forAll_shell restartChannel_shell, restartQuiet_shell]

theorem carryOut_keepsUnit (q : QueuedRequest) (s : State) : KeepsUnit s (carryOut q s).1 := by
  unfold carryOut
  split
  next => exact ⟨rfl, rfl, rfl, rfl⟩
  next => exact sized_keepsUnit .refl
  next => exact stageEntries_keepsUnit _ _
  next => exact readTable_keepsUnit _ _ _
  next => exact readTable_keepsUnit _ _ _
  next => exact sized_keepsUnit ⟨rfl, rfl, rfl, rfl⟩
  next => exact applyRequest_keepsUnit _ _
  next => exact sized_keepsUnit (.of_shell (suspendAnalysis_shell s))
  next => exact sized_keepsUnit (.of_shell (resumeAnalysis_shell s))
  next => exact sized_keepsUnit ⟨rfl, rfl, rfl, rfl⟩
  next => exact readResults_keepsUnit _ _
  next => exact sized_keepsUnit ⟨rfl, rfl, rfl, rfl⟩
  next => exact setDeliveryMode_keepsUnit _ _
  next => exact withdrawNotices_keepsUnit _ _
  next => exact captureChannel_keepsUnit _ _
  next => exact readCapture_keepsUnit _ _
  next => exact releaseCapture_keepsUnit _ _
  next => exact doneRequest_keepsUnit _ _
  next => exact deferRequest_keepsUnit _ _
  next =>
    refine sized_keepsUnit (indexed_keepsUnit fun k => ?_)
    split
    · exact .refl
    · exact .of_shell (overrideIce_shell k s)
  next => exact sized_keepsUnit (indexed_keepsUnit fun k => .of_shell (resetBaselines_shell k s))
  next => exact sized_keepsUnit .refl
  next => exact sized_keepsUnit (.of_shell (restartProcessingEffect_shell s))

theorem carryOut_clock (q : QueuedRequest) (s : State) : (carryOut q s).1.clock = s.clock := by
  obtain ⟨-, hclock, -, -⟩ := carryOut_keepsUnit q s
  exact hclock

theorem carryOut_mgmt (q : QueuedRequest) (s : State) : (carryOut q s).1.mgmt = s.mgmt := by
  obtain ⟨hmgmt, -, -, -⟩ := carryOut_keepsUnit q s
  exact hmgmt

end

/-- What a ready part does with a request command. -/
theorem exec_request {c : Instr} {q : QueuedRequest} {s : State} (hc : requestOf c = some q) (hready : s.ready) :
    ∃ t, exec c s = .next t ∧
      ∀ s' a, carryOut q s = (s', a) → t.hideFrames = (s'.answered q.code q.rq a).hideFrames := by
  rw [exec_of_requestOf hc]
  exact live_request hready (carryOut_clock _ _)

/-! ### The checks of R198 -/

section
variable {s : State} {rq : Request}

theorem sized_of_length {n : Nat} (f : State × Answer) (h : rq.args.length = n) : sized n rq s f = f := if_pos h

theorem sized_of_other {n : Nat} (f : State × Answer) (h : rq.args.length ≠ n) : sized n rq s f = malformed s := if_neg h

theorem index?_of_lt {m n : Nat} (h : n < m) : index? m n = some ⟨n, h⟩ := dif_pos h
theorem index?_of_ge {m n : Nat} (h : m ≤ n) : index? m n = none := dif_neg (Nat.not_lt.mpr h)

theorem indexed_of_lt {m n : Nat} (f : Fin m → State × Answer) (h : n < m) : indexed m n s f = f ⟨n, h⟩ := by
  simp only [indexed, index?_of_lt h]

theorem indexed_of_ge {m n : Nat} (f : Fin m → State × Answer) (h : m ≤ n) : indexed m n s f = (s, .plain .badIndex) := by
  simp only [indexed, index?_of_ge h]

/-- A request of one argument byte that is an index in range. -/
theorem sized_indexed {m : Nat} (i : Fin m) (hm : m ≤ 256) (f : Fin m → State × Answer)
    (h : rq.args = [BitVec.ofNat 8 i.1]) : sized 1 rq s (indexed m (at8 rq.args 0) s f) = f i := by
  have hbyte : at8 rq.args 0 = i.1 := by
    rw [h]
    exact Nat.mod_eq_of_lt (i.2.trans_le hm)
  rw [sized_of_length _ (by rw [h]; rfl), hbyte, indexed_of_lt f i.2]

/-- A request with arguments of another number than its code requires is MALFORMED. -/
theorem carryOut_of_wrong_size {c : Instr} {q : QueuedRequest} {n : Nat} (hc : requestOf c = some q)
    (hn : argBytes c = some n) (hlen : q.rq.args.length ≠ n) (s : State) : carryOut q s = malformed s := by
  cases c <;> cases hc <;> cases hn <;> exact sized_of_other _ hlen

theorem carryOut_of_unknown {q : QueuedRequest} (h : RequestKind.ofCode q.code = none) (s : State) :
    carryOut q s = malformed s := by simp only [carryOut, h]

/-! ### Stage entries: the checks (R198, R200, R214) -/

theorem stageEntries_of_bad_count (h : rq.args.length < 2 ∨ at8 rq.args 1 = 0 ∨ 8 < at8 rq.args 1) :
    stageEntries rq s = malformed s := if_pos h

theorem stageEntries_of_no_table (h : ¬ (rq.args.length < 2 ∨ at8 rq.args 1 = 0 ∨ 8 < at8 rq.args 1))
    (ht : TableCode.ofCode (at8 rq.args 0) = none) : stageEntries rq s = badTable s := by
  simp only [stageEntries, if_neg h, ht]

theorem stageEntries_of_table (h : ¬ (rq.args.length < 2 ∨ at8 rq.args 1 = 0 ∨ 8 < at8 rq.args 1)) {tc : TableCode}
    (ht : TableCode.ofCode (at8 rq.args 0) = some tc) :
    stageEntries rq s =
      if rq.args.length = 2 + at8 rq.args 1 * (1 + tc.size) then
        if (entriesOf tc.size (at8 rq.args 1) (rq.args.drop 2)).any (fun e => decide (tc.entries ≤ e.1)) then
          (s, .plain .badIndex)
        else storeEntries tc (entriesOf tc.size (at8 rq.args 1) (rq.args.drop 2)) s
      else malformed s := by
  simp only [stageEntries, if_neg h, ht]

theorem at8_drop (bs : List Byte) (n k : Nat) : at8 (bs.drop n) k = at8 bs (n + k) := by
  simp [at8, List.getD_eq_getElem?_getD, List.getElem?_drop]

/-- The index bytes of a Stage entries request stand one entry apart. -/
theorem entriesOf_any (m size n : Nat) (bs : List Byte) :
    (entriesOf size n bs).any (fun e => decide (m ≤ e.1)) = true ↔ ∃ k, k < n ∧ m ≤ at8 bs (k * (1 + size)) := by
  induction n generalizing bs with
  | zero => simp [entriesOf]
  | succ n ih =>
    rw [entriesOf, List.any_cons, Bool.or_eq_true, ih, decide_eq_true_eq]
    constructor
    · rintro (h | ⟨k, hk, h⟩)
      · exact ⟨0, Nat.succ_pos n, by simpa using h⟩
      · refine ⟨k + 1, Nat.succ_lt_succ hk, ?_⟩
        rw [at8_drop] at h
        rwa [show (k + 1) * (1 + size) = 1 + size + k * (1 + size) by ring]
    · rintro ⟨k, hk, h⟩
      cases k with
      | zero => exact .inl (by simpa using h)
      | succ k =>
        refine .inr ⟨k, Nat.lt_of_succ_lt_succ hk, ?_⟩
        rw [at8_drop]
        rwa [show (k + 1) * (1 + size) = 1 + size + k * (1 + size) by ring] at h

theorem readResults_of_bad_count
    (h : rq.args.length < 2 ∨ at8 rq.args 1 = 0 ∨ 8 < at8 rq.args 1 ∨ rq.args.length ≠ 2 + at8 rq.args 1) :
    readResults rq s = malformed s := if_pos h

end

/-! ### A completed reply (R197, R209) -/

theorem ofCode_eq_some {c : Byte} {k : RequestKind} (h : RequestKind.ofCode c = some k) : k.code = c :=
  of_decide_eq_true (List.find?_some (p := fun k : RequestKind => decide (k.code = c)) h)

theorem Reply.restartsFull_iff (r : Reply) : r.restartsFull = true ↔ r.request.code = 0xF0#8 ∧ r.answer.status = .ok := by
  have hcode : RequestKind.ofCode r.request.code = some .restartFull ↔ r.request.code = 0xF0#8 :=
    ⟨fun h => (ofCode_eq_some h).symm, fun h => by rw [h]; decide⟩
  rw [Reply.restartsFull, Bool.and_eq_true, decide_eq_true_eq, decide_eq_true_eq, hcode]

theorem takeWaiting_of_none {s : State} (hreply : s.mgmt.reply = none) (hq : s.mgmt.queue = []) : takeWaiting s = s := by
  simp only [takeWaiting, hreply, Option.isSome_none, Bool.false_eq_true, if_false, hq]

theorem takeWaiting_of_cons {s : State} {q : QueuedRequest} {rest : List QueuedRequest} (hreply : s.mgmt.reply = none)
    (hq : s.mgmt.queue = q :: rest) :
    takeWaiting s = takeRequest q { s with mgmt := { s.mgmt with queue := rest } } := by
  simp only [takeWaiting, hreply, Option.isSome_none, Bool.false_eq_true, if_false, hq]

theorem takeWaiting_of_held {s : State} (hreply : s.mgmt.reply.isSome = true) : takeWaiting s = s := if_pos hreply

theorem restartFullEffect_hideFrames (s : State) : (restartFullEffect s).hideFrames =
    ({ State.powerOn s.node with resetLow := s.resetLow, link := s.link, pending := s.pending }).hideFrames := by
  have hturbines : (tabulate 8 fun k => { (restartFullEffect s).turbines[k] with advisory := .quiet }) =
      tabulate 8 fun k => { (State.powerOn s.node).turbines[k] with advisory := .quiet } := by
    congr 1
    funext k
    have hk : (restartFullEffect s).turbines[k] = { Turbine.init with advisory := s.turbines[k].advisory.afterFull } :=
      tabulate_get _ _ k
    rw [hk, State.powerOn_turbines]
  simp only [State.hideFrames, hturbines]
  rfl

/-- Settles O31: the released port and reply, then `takeWaiting`; a Restart FULL leaves nothing PENDING and no request. -/
theorem replyCompletionReleasesReply : Obligations.ReplyCompletionReleasesReply := by
  intro b r s hlow hsending hreply
  let u : State := freePort .station { s with mgmt := { s.mgmt with reply := none } }
  have hdone : completeReply s = takeWaiting (if r.restartsFull then restartFullEffect u else u) := by
    simp only [completeReply, hsending, hreply]
    rfl
  refine ⟨_, live_next _ hlow, fun hstays => ⟨fun hq => ?_, fun q rest hq => ?_⟩, fun hcode hok => ⟨?_, fun hbusy => ?_, fun k => ?_⟩⟩
  · have hfull : r.restartsFull = false := by
      rw [← Bool.not_eq_true, Reply.restartsFull_iff, not_and_or]; exact hstays
    rw [hdone, hfull, arbitrate_hideFrames]
    have hnone : takeWaiting u = u := takeWaiting_of_none rfl hq
    rw [if_neg Bool.false_ne_true, hnone, ← hq]
    exact State.modPort_hideFrames _ .station _ fun _ => rfl
  · have hfull : r.restartsFull = false := by
      rw [← Bool.not_eq_true, Reply.restartsFull_iff, not_and_or]; exact hstays
    have hnext : takeWaiting u = takeRequest q { u with mgmt := { u.mgmt with queue := rest } } :=
      takeWaiting_of_cons rfl hq
    rw [hdone, hfull, if_neg Bool.false_ne_true, hnext, arbitrate_mgmt]
    have hmgmt := carryOut_mgmt q { u with mgmt := { u.mgmt with queue := rest } }
    exact ⟨congrArg Mgmt.queue hmgmt, _, rfl, rfl, rfl⟩
  all_goals
    have hfull : r.restartsFull = true := r.restartsFull_iff.mpr ⟨hcode, hok⟩
    have hnone : takeWaiting (restartFullEffect u) = restartFullEffect u := takeWaiting_of_none rfl rfl
    rw [hdone, hfull, if_pos rfl, hnone]
  · rw [arbitrate_hideFrames, restartFullEffect_hideFrames]
    have hport := State.modPort_hideFrames { s with mgmt := { s.mgmt with reply := none } } .station
      (fun x => { x with sending := none }) fun _ => rfl
    have hlink := congrArg State.link hport
    have hreset : u.resetLow = false := hlow
    rw [hreset]
    exact congrArg (fun l => { (State.powerOn s.node).hideFrames with link := l, pending := s.pending }) hlink
  · exact arbitrate_busy (p := .field) (s := restartFullEffect u) hbusy
  · have hk : (restartFullEffect u).turbines[k].advisory = s.turbines[k].advisory.afterFull :=
      congrArg Turbine.advisory (tabulate_get _ _ k)
    rw [arbitrate_not_pending (by rw [hk]; cases s.turbines[k].advisory <;> rfl), hk]
    cases s.turbines[k].advisory <;> rfl

/-! ### The statements -/

/-- Settles O36: each check of R198 stands first in its request. -/
theorem unsuitedRequestIsTurnedAway : Obligations.UnsuitedRequestIsTurnedAway := by
  refine ⟨fun c q s hc hready hbad => ?_, fun rq n s hready hn => ?_, fun c q rq m s hready hc hrq hmem hge => ?_⟩
  · obtain ⟨t, ht, hans⟩ := exec_request hc hready
    refine ⟨t, ht, hans _ _ ?_⟩
    rcases hbad with hnone | ⟨n, hn, hlen⟩
    · exact carryOut_of_unknown hnone s
    · exact carryOut_of_wrong_size hc hn hlen s
  · subst hn
    obtain ⟨t, ht, htans⟩ := exec_request (c := .stageEntries rq) rfl hready
    obtain ⟨u, hu, huans⟩ := exec_request (c := .readResults rq) rfl hready
    refine ⟨t, u, ht, hu, fun hbad => htans _ _ ?_, fun hlen hpos hle htable => htans _ _ ?_,
      fun tc hpos hle htable hlen hout => htans _ _ ?_, fun hbad => huans _ _ (readResults_of_bad_count hbad)⟩
    · change stageEntries rq s = malformed s
      by_cases hcount : rq.args.length < 2 ∨ at8 rq.args 1 = 0 ∨ 8 < at8 rq.args 1
      · exact stageEntries_of_bad_count hcount
      · rcases hbad with h | h | h | ⟨tc, htable, hlen⟩
        · exact absurd (.inl h) hcount
        · exact absurd (.inr (.inl h)) hcount
        · exact absurd (.inr (.inr h)) hcount
        · rw [stageEntries_of_table hcount htable, if_neg hlen]
    · change stageEntries rq s = badTable s
      exact stageEntries_of_no_table (by omega) htable
    · change stageEntries rq s = (s, .plain .badIndex)
      rw [stageEntries_of_table (by omega) htable, if_pos hlen, if_pos]
      obtain ⟨k, hk, hge⟩ := hout
      exact (entriesOf_any _ _ _ _).mpr ⟨k, hk, by rwa [at8_drop]⟩
  · obtain ⟨t, ht, hans⟩ := exec_request hc hready
    obtain ⟨code, rq'⟩ := q
    change rq' = rq at hrq
    subst hrq
    refine ⟨t, ht, hans _ _ ?_⟩
    simp only [List.mem_cons, Prod.mk.injEq, List.not_mem_nil, or_false] at hmem
    rcases hmem with ⟨rfl, rfl, hlen⟩ | ⟨rfl, rfl, hlen⟩ | ⟨rfl, rfl, hlen⟩ | ⟨rfl, rfl, hlen⟩ | ⟨rfl, rfl, hlen⟩
    all_goals
      cases hc
      exact (sized_of_length _ hlen).trans (indexed_of_ge _ hge)

/-- Settles O37: with a reply held, offering a request only queues it or sets the flag. -/
theorem requestWaitsBehindReply : Obligations.RequestWaitsBehindReply := by
  intro c q s hc hlow
  rw [exec_of_requestOf hc]
  refine ⟨_, live_next _ hlow, fun hnode => ?_, fun hnode hheld hroom => ?_, fun hnode hheld hfull => ?_⟩
  · rw [arbitrate_hideFrames, request, if_pos (show s.node = Config.noNode from hnode)]
  · rw [arbitrate_hideFrames, request, if_neg (show s.node ≠ Config.noNode from hnode), offerRequest,
      if_pos (show s.mgmt.queue.length < Config.requestSize from hroom), takeWaiting_of_held (by exact hheld)]
  · rw [arbitrate_hideFrames, request, if_neg (show s.node ≠ Config.noNode from hnode), offerRequest,
      if_neg (show ¬ s.mgmt.queue.length < Config.requestSize from Nat.not_lt.mpr hfull), takeWaiting_of_held (by exact hheld)]
    rfl

/-! ### Staging and reading -/

section
variable {s : State} {tc : TableCode} {es : List (Nat × List Byte)}

/-- The error record after a Stage entries request: only READ_ONLY_WRITE may be set (R199). -/
def stagedErrors (s : State) (st : List ReplyStatus) : ErrorRecord :=
  { s.errors with readOnlyWrite := s.errors.readOnlyWrite || decide (ReplyStatus.readOnly ∈ st) }

theorem flagged_eq (s : State) (st : List ReplyStatus) :
    (if ReplyStatus.readOnly ∈ st then s.setReadOnlyWrite else s) = { s with errors := stagedErrors s st } := by
  split
  next h => simp only [stagedErrors, h, decide_true, Bool.or_true]; rfl
  next h => simp only [stagedErrors, h, decide_false, Bool.or_false]

theorem storeEntries_stores (h : ∀ st ∈ (stageAll tc es s.staged).2, st.refuses = false) :
    storeEntries tc es s =
      ({ s with errors := stagedErrors s (stageAll tc es s.staged).2, staged := (stageAll tc es s.staged).1 },
       .plain (if ReplyStatus.okAdjusted ∈ (stageAll tc es s.staged).2 then .okAdjusted else .ok)) := by
  simp only [storeEntries, flagged_eq, List.findIdx?_eq_none_iff.mpr h]

theorem storeEntries_refuses {a b : List ReplyStatus} {st : ReplyStatus} (hsplit : (stageAll tc es s.staged).2 = a ++ st :: b)
    (ha : ∀ x ∈ a, x.refuses = false) (hst : st.refuses = true) :
    storeEntries tc es s =
      ({ s with errors := stagedErrors s (stageAll tc es s.staged).2 },
       { status := st, reason := none, results := u8 (a.length + 1) }) := by
  have hfind : (stageAll tc es s.staged).2.findIdx? ReplyStatus.refuses = some a.length := by
    rw [hsplit, List.findIdx?_append, List.findIdx?_eq_none_iff.mpr ha, List.findIdx?_cons, if_pos hst]
    simp
  have hget : (stageAll tc es s.staged).2.getD a.length .badValue = st := by
    rw [hsplit, List.getD_append_right _ _ _ _ (Nat.le_refl _), Nat.sub_self]
    rfl
  simp only [storeEntries, flagged_eq, hfind, hget]

/-- All is stored, or the first status that refuses decides. -/
theorem storeEntries_errors (tc : TableCode) (es : List (Nat × List Byte)) (s : State) :
    (storeEntries tc es s).1 = { s with
      errors := stagedErrors s (stageAll tc es s.staged).2, staged := (storeEntries tc es s).1.staged } := by
  simp only [storeEntries, flagged_eq]
  split <;> rfl

end

/-- Settles O39: `storeEntries` decides by the first status that refuses. -/
theorem stagingIsAllOrNone : Obligations.StagingIsAllOrNone := by
  intro rq tc n es s hready htable hn hpos hle hlen hes hin
  subst hn
  obtain ⟨t, ht, hans⟩ := exec_request (c := .stageEntries rq) rfl hready
  have hstore : carryOut ⟨0x10, rq⟩ s = storeEntries tc es s := by
    change stageEntries rq s = _
    rw [stageEntries_of_table (by omega) htable, if_pos hlen, hes, if_neg]
    simp only [List.any_eq_true, decide_eq_true_eq, not_exists, not_and, Nat.not_le]
    exact hin
  have herrors := storeEntries_errors tc es s
  obtain ⟨u, a, hua⟩ : ∃ u a, storeEntries tc es s = (u, a) := ⟨_, _, rfl⟩
  rw [hua] at hstore herrors
  have hview := hans _ _ hstore
  have hstaged := State.staged_of_hideFrames hview
  change t.staged = u.staged at hstaged
  change u = _ at herrors
  refine ⟨t, ⟨⟨0x10, rq⟩, a, _⟩, ht, congrArg Mgmt.reply (State.mgmt_of_hideFrames hview), rfl, ?_,
    (State.errors_of_hideFrames hview).trans (congrArg State.errors herrors), fun hall => ?_,
    fun a b st hsplit ha hst => ?_⟩
  · rw [State.mgmt_of_hideFrames hview, State.errors_of_hideFrames hview, hstaged, hview, herrors]
    rfl
  · rw [storeEntries_stores hall, Prod.mk.injEq] at hua
    obtain ⟨hu, ha⟩ := hua
    rw [hstaged, ← hu, ← ha]
    exact ⟨rfl, rfl⟩
  · rw [storeEntries_refuses hsplit ha hst, Prod.mk.injEq] at hua
    obtain ⟨hu, ha⟩ := hua
    rw [hstaged, ← hu, ← ha]
    exact ⟨rfl, rfl⟩

theorem countOf_toNat (b : Byte) : countOf b.toNat = if b = 0 ∨ 8 < b.toNat then 8 else b.toNat :=
  if_congr (or_congr_left ⟨fun h => BitVec.eq_of_toNat_eq h, fun h => by rw [h]; rfl⟩) rfl rfl

section
variable {s : State} {rq : Request} {table first count : Byte} {record : TableCode → Nat → List Byte}

theorem readTable_of_no_table (hargs : rq.args = [table, first, count]) (ht : TableCode.ofCode table.toNat = none) :
    readTable rq record s = badTable s := by
  have hcode : TableCode.ofCode (at8 rq.args 0) = none := by rw [hargs]; exact ht
  rw [readTable, sized_of_length _ (by rw [hargs]; rfl)]
  simp only [hcode]

theorem readTable_of_table (hargs : rq.args = [table, first, count]) {tc : TableCode}
    (ht : TableCode.ofCode table.toNat = some tc) :
    readTable rq record s =
      if tc.entries ≤ first.toNat then (s, .plain .badIndex)
      else (s, .ok ((List.range (min (if count = 0 ∨ 8 < count.toNat then 8 else count.toNat)
        (tc.entries - first.toNat))).flatMap fun k => record tc (first.toNat + k))) := by
  have hcode : TableCode.ofCode (at8 rq.args 0) = some tc := by rw [hargs]; exact ht
  have hfirst : at8 rq.args 1 = first.toNat := by rw [hargs]; rfl
  have hcount : at8 rq.args 2 = count.toNat := by rw [hargs]; rfl
  rw [readTable, sized_of_length _ (by rw [hargs]; rfl)]
  simp only [hcode, hfirst, hcount, countOf_toNat]

end

/-- Settles O40: both reads are `readTable` with another record, and Discard staged copies the current entries. -/
theorem readAndDiscardStaging : Obligations.ReadAndDiscardStaging := by
  refine ⟨fun rq table first count s hready hargs => ?_, fun rq s hready hargs => ?_⟩
  · obtain ⟨t, ht, htans⟩ := exec_request (c := .readStaged rq) rfl hready
    obtain ⟨u, hu, huans⟩ := exec_request (c := .readCurrent rq) rfl hready
    refine ⟨t, u, ht, hu, fun hnone => ⟨htans _ _ ?_, huans _ _ ?_⟩, fun tc htable => ⟨fun hge => ⟨htans _ _ ?_, huans _ _ ?_⟩,
      fun hlt => ⟨htans _ _ ?_, huans _ _ ?_⟩⟩⟩
    · exact readTable_of_no_table hargs hnone
    · exact readTable_of_no_table hargs hnone
    · exact (readTable_of_table hargs htable).trans (if_pos hge)
    · exact (readTable_of_table hargs htable).trans (if_pos hge)
    · exact (readTable_of_table hargs htable).trans (if_neg (Nat.not_le.mpr hlt))
    · exact (readTable_of_table hargs htable).trans (if_neg (Nat.not_le.mpr hlt))
  · obtain ⟨t, ht, hans⟩ := exec_request (c := .discardStaged rq) rfl hready
    have hview := hans _ _ (sized_of_length _ (by rw [hargs]; rfl))
    have hstaged := State.staged_of_hideFrames hview
    refine ⟨t, ht, by rw [hstaged]; rfl, fun n => ?_, ?_⟩
    · rw [hstaged]
      exact ⟨by simp [State.answered], tabulate_get _ _ n⟩
    · rw [hstaged]
      exact hview

/-! ### Reading results (R206, R207) -/

theorem recordsOf_of_lt (k : ResultKind) (idx : List Byte) (h : ∀ b ∈ idx, b.toNat < k.size) :
    recordsOf k (idx.map BitVec.toNat) =
      some (idx.flatMap fun b => if h : b.toNat < k.size then k.record ⟨b.toNat, h⟩ else []) := by
  induction idx with
  | nil => rfl
  | cons b idx ih =>
    obtain ⟨hb, hrest⟩ := List.forall_mem_cons.mp h
    simp only [List.map_cons, recordsOf, index?_of_lt hb, ih hrest, List.flatMap_cons, dif_pos hb]

theorem recordsOf_of_ge (k : ResultKind) (idx : List Byte) (h : ∃ b ∈ idx, k.size ≤ b.toNat) :
    recordsOf k (idx.map BitVec.toNat) = none := by
  induction idx with
  | nil => obtain ⟨b, hb, -⟩ := h; cases hb
  | cons b idx ih =>
    rw [List.map_cons, recordsOf]
    by_cases hb : k.size ≤ b.toNat
    · rw [index?_of_ge hb]
    · have hrest : ∃ b ∈ idx, k.size ≤ b.toNat := by
        obtain ⟨c, hc, hge⟩ := h
        rcases List.mem_cons.mp hc with rfl | hc
        · exact absurd hge hb
        · exact ⟨c, hc, hge⟩
      rw [ih hrest]
      cases index? k.size b.toNat <;> rfl

theorem readResults_of_kind {rq : Request} {kind : Byte} {idx : List Byte} {k : ResultKind} {s : State}
    (hpos : 1 ≤ idx.length) (hle : idx.length ≤ 8) (hargs : rq.args = kind :: BitVec.ofNat 8 idx.length :: idx)
    (hkind : s.resultKind kind.toNat = some k) :
    (∀ bs, recordsOf k (idx.map BitVec.toNat) = some bs → readResults rq s = (s, .ok bs)) ∧
      (recordsOf k (idx.map BitVec.toNat) = none → readResults rq s = (s, .plain .badIndex)) := by
  have hcount : at8 rq.args 1 = idx.length := by
    rw [hargs]
    exact Nat.mod_eq_of_lt (by omega)
  have hcode : at8 rq.args 0 = kind.toNat := by rw [hargs]; rfl
  have hlen : rq.args.length = 2 + idx.length := by rw [hargs, List.length_cons, List.length_cons]; omega
  have hdrop : rq.args.drop 2 = idx := by rw [hargs]; rfl
  have hgood : ¬ (rq.args.length < 2 ∨ at8 rq.args 1 = 0 ∨ 8 < at8 rq.args 1 ∨ rq.args.length ≠ 2 + at8 rq.args 1) := by
    omega
  exact ⟨fun bs h => by simp only [readResults, if_neg hgood, hcode, hkind, hdrop, h],
    fun h => by simp only [readResults, if_neg hgood, hcode, hkind, hdrop, h]⟩

/-- Settles O44: the status record is written before the flags are cleared; a list of indexes gives its records or none. -/
theorem readingChangesOnlyFlags : Obligations.ReadingChangesOnlyFlags := by
  refine ⟨fun rq s hready hargs => ?_, fun rq kind idx k s hready hpos hle hargs hkind => ?_⟩
  · obtain ⟨t, ht, hans⟩ := exec_request (c := .readStatus rq) rfl hready
    exact ⟨t, ht, hans _ _ (sized_of_length _ (by rw [hargs]; rfl))⟩
  · obtain ⟨t, ht, hans⟩ := exec_request (c := .readResults rq) rfl hready
    obtain ⟨hsome, hnone⟩ := readResults_of_kind hpos hle hargs hkind
    refine ⟨t, ht, fun hall => hans _ _ ?_, fun hout => hans _ _ ?_⟩
    · exact hsome _ (recordsOf_of_lt k idx hall)
    · exact hnone (recordsOf_of_ge k idx hout)

end Sys2Proof.Machine
end

section
/-! PROOFS. The requests on notices, captures, maintenance entries and icing (R99, R100, R149 to R153, R158 to R160, R165,
R166, R177 to R179), and the evaluation of a maintenance entry (R141 to R144). -/

namespace Sys2Proof.Machine

/-! ### Fetch notices (R177) -/

/-- Fetch takes the first `n` notices that are not in transmission and leaves the others in their order. -/
theorem fetchFrom_eq (sending : Option Nat) (q : List Notice) (n : Nat) (hq : (q.map Notice.number).Nodup) :
    fetchFrom sending q n =
      ((q.filter fun x => sending ≠ some x.number).take n,
       q.filter fun x => x ∉ (q.filter fun x => sending ≠ some x.number).take n) := by
  induction q generalizing n with
  | nil => cases n <;> rfl
  | cons x q ih =>
    obtain ⟨hx, hq⟩ := List.nodup_cons.mp hq
    have hnew : x ∉ q := fun h => hx (List.mem_map_of_mem h)
    cases n with
    | zero => simp [fetchFrom]
    | succ n =>
      rw [fetchFrom]
      split
      next hsent =>
        have hdrop : (x :: q).filter (fun x => sending ≠ some x.number) = q.filter fun x => sending ≠ some x.number :=
          List.filter_cons_of_neg (by simpa using hsent)
        have hstays : x ∉ (q.filter fun x => sending ≠ some x.number).take (n + 1) := fun h =>
          hnew (List.mem_of_mem_filter (List.mem_of_mem_take h))
        rw [hdrop, ih (n + 1) hq, List.filter_cons_of_pos (by simpa using hstays)]
      next hfree =>
        have hkeep : (x :: q).filter (fun x => sending ≠ some x.number) =
            x :: q.filter fun x => sending ≠ some x.number := List.filter_cons_of_pos (by simpa using hfree)
        have hrest : q.filter (fun y => y ∉ x :: (q.filter fun x => sending ≠ some x.number).take n) =
            q.filter fun y => y ∉ (q.filter fun x => sending ≠ some x.number).take n :=
          List.filter_congr fun y hy => by
            have hne : y ≠ x := fun h => hnew (h ▸ hy)
            simp only [List.mem_cons, hne, false_or]
        rw [hkeep, ih n hq, List.take_succ_cons, List.filter_cons_of_neg (by simp), hrest]

/-- Settles O45: Fetch's recursion is the filter and the take of the statement, the numbers being unique. -/
theorem fetchReturnsFirstNotices : Obligations.FetchReturnsFirstNotices := by
  intro rq b n free s hready hargs hsound hn hfree
  obtain ⟨-, -, hnodup, -⟩ := hsound
  obtain ⟨t, ht, hans⟩ := exec_request (c := .fetchNotices rq) rfl hready
  refine ⟨t, ht, hans _ _ ((sized_of_length _ (by rw [hargs]; rfl)).trans ?_)⟩
  have hcount : countOf (at8 rq.args 0) = n := by
    rw [hargs, hn]
    exact countOf_toNat b
  simp only [hcount, fetchFrom_eq _ _ n hnodup, ← hfree, List.length_take]

/-! ### Withdraw notices and Set delivery mode (R178, R179) -/

theorem withdraw_none (s : State) : withdraw none s =
    ({ s with notices := { s.notices with
        queue := s.notices.queue.filter fun x : Notice => s.notices.sending = some x.number } },
     .ok (u8 (s.notices.queue.filter fun x : Notice => s.notices.sending ≠ some x.number).length)) := by
  have hgone : s.notices.withdrawn none = fun x => decide (s.notices.sending ≠ some x.number) := by
    funext x; simp [NoticeQueue.withdrawn]
  simp only [withdraw, hgone]
  congr 3
  exact List.filter_congr fun x _ => by simp

theorem withdraw_some (k : Fin 8) (s : State) : withdraw (some k) s =
    ({ s with notices := { s.notices with
        queue := s.notices.queue.filter fun x => s.notices.sending = some x.number ∨ x.offer.turbine ≠ some k } },
     .ok (u8 (s.notices.queue.filter fun x : Notice =>
        s.notices.sending ≠ some x.number ∧ x.offer.turbine = some k).length)) := by
  have hgone : s.notices.withdrawn (some k) =
      fun x => decide (s.notices.sending ≠ some x.number ∧ x.offer.turbine = some k) := by
    funext x; simp [NoticeQueue.withdrawn]
  simp only [withdraw, hgone]
  congr 3
  exact List.filter_congr fun x _ => by rw [← decide_not]; exact decide_eq_decide.mpr (by tauto)

section
variable {rq : Request} {b : Byte} {s : State}

theorem at8_one (hargs : rq.args = [b]) : at8 rq.args 0 = b.toNat := by rw [hargs]; rfl

theorem sized_one (hargs : rq.args = [b]) (f : State × Answer) : sized 1 rq s f = f :=
  sized_of_length f (by rw [hargs]; rfl)

theorem deliveryMode_all_eq (m : DeliveryMode) : DeliveryMode.all[m.code]? = some m := by cases m <;> rfl

end

/-- Settles O46: the queue split by the model's filter; the two modes are the two entries of its list. -/
theorem withdrawAndDeliveryMode : Obligations.WithdrawAndDeliveryMode := by
  intro rq b s hready hargs
  obtain ⟨t, ht, htans⟩ := exec_request (c := .withdrawNotices rq) rfl hready
  obtain ⟨u, hu, huans⟩ := exec_request (c := .setDeliveryMode rq) rfl hready
  have hbyte := at8_one hargs
  refine ⟨t, u, ht, hu, fun hall => htans _ _ ((sized_one hargs _).trans ?_),
    fun k hk => htans _ _ ((sized_one hargs _).trans ?_), fun hge hne => htans _ _ ((sized_one hargs _).trans ?_),
    fun hge => huans _ _ ((sized_one hargs _).trans ?_), fun m hm => ⟨fun hsame => huans _ _ ((sized_one hargs _).trans ?_),
      fun hother => huans _ _ ((sized_one hargs _).trans ?_)⟩⟩
  · rw [if_pos (by rw [hbyte, hall]; rfl), withdraw_none]
  · have hnot : at8 rq.args 0 ≠ 255 := by omega
    rw [if_neg hnot, hbyte, hk, indexed_of_lt _ k.2, withdraw_some]
  · have hnot : at8 rq.args 0 ≠ 255 := fun h => hne (BitVec.eq_of_toNat_eq (hbyte ▸ h))
    rw [if_neg hnot, hbyte, indexed_of_ge _ hge]
  · have hnone : DeliveryMode.all[at8 rq.args 0]? = none :=
      List.getElem?_eq_none (show 2 ≤ at8 rq.args 0 by omega)
    rw [hnone]
  · rw [hbyte, hm, deliveryMode_all_eq]
    exact if_pos hsame
  · rw [hbyte, hm, deliveryMode_all_eq]
    exact if_neg hother

/-! ### Captures (R158 to R160, R165, R166) -/

section
variable {s : State} {c : Fin 24}

theorem captureRefused_of_not_running (hr : s.channels[c].state ≠ .running) (hs : s.channels[c].state ≠ .settling) :
    s.captureRefused c = some .notRunning := if_pos ⟨hr, hs⟩

theorem captureRefused_of_running (h : s.channels[c].state = .running ∨ s.channels[c].state = .settling) :
    s.captureRefused c =
      if s.slots[(0 : Fin 2)].fillingFor c || s.slots[(1 : Fin 2)].fillingFor c then some .channelBusy
      else if s.slots[(0 : Fin 2)].state ≠ .free ∧ s.slots[(1 : Fin 2)].state ≠ .free then some .noSlot
      else none := if_neg (by tauto)

theorem fillsFor_iff : (s.slots[(0 : Fin 2)].fillingFor c || s.slots[(1 : Fin 2)].fillingFor c) = true ↔
    ∃ k : Fin 2, s.slots[k].state = .filling ∧ s.slots[k].channel = c := by
  rw [Bool.or_eq_true, fillingFor_iff, fillingFor_iff, Fin.exists_fin_two]

theorem freeSlot_of_lowest {k : Fin 2} (hk : s.slots[k].state = .free) (hlow : ∀ j : Fin 2, j < k → s.slots[j].state ≠ .free) :
    s.freeSlot = k := by
  unfold State.freeSlot
  match k with
  | 0 => exact if_pos hk
  | 1 => exact if_neg (hlow 0 (by decide))

end

/-- Settles O47: the three tests of R159 in order, then the lowest FREE slot. -/
theorem captureChannelTakesSlot : Obligations.CaptureChannelTakesSlot := by
  intro rq c s hready hargs
  obtain ⟨t, ht, hans⟩ := exec_request (c := .captureChannel rq) rfl hready
  have hdo := sized_indexed (s := s) c (by decide) (fun c => match s.captureRefused c with
      | some r => (s, .refused r)
      | none => (captureStart c .manual none s.channels[c].gen s, .ok (u8 s.freeSlot.1))) hargs
  have hrefuse : ∀ r, s.captureRefused c = some r → t.hideFrames = (s.answered 0x50 rq (.refused r)).hideFrames :=
    fun r hr => hans _ _ (hdo.trans (by simp only [hr]))
  refine ⟨t, ht, fun hr hs => hrefuse _ (captureRefused_of_not_running hr hs), fun hrun => ⟨fun hbusy => ?_, fun hfull => ?_,
    fun k hk hlow hidle => ?_⟩⟩
  · exact hrefuse _ ((captureRefused_of_running hrun).trans (if_pos (fillsFor_iff.mpr hbusy)))
  · have hidle : ¬ (s.slots[(0 : Fin 2)].fillingFor c || s.slots[(1 : Fin 2)].fillingFor c) = true := by
      rw [fillsFor_iff]
      rintro ⟨k, hk⟩
      exact (hfull k).2 hk
    exact hrefuse _ ((captureRefused_of_running hrun).trans ((if_neg hidle).trans (if_pos ⟨(hfull 0).1, (hfull 1).1⟩)))
  · have hnot : ¬ (s.slots[(0 : Fin 2)].fillingFor c || s.slots[(1 : Fin 2)].fillingFor c) = true := by
      rw [fillsFor_iff]
      rintro ⟨k, hk⟩
      exact hidle k hk
    have hsome : ¬ (s.slots[(0 : Fin 2)].state ≠ .free ∧ s.slots[(1 : Fin 2)].state ≠ .free) := by
      rintro ⟨h0, h1⟩
      exact (Fin.forall_fin_two.mpr ⟨h0, h1⟩ : ∀ j : Fin 2, s.slots[j].state ≠ .free) k hk
    have hnone : s.captureRefused c = none :=
      (captureRefused_of_running hrun).trans ((if_neg hnot).trans (if_neg hsome))
    have hview := hans (captureStart c .manual none s.channels[c].gen s) (.ok (u8 k.1))
      (hdo.trans (by simp only [hnone, freeSlot_of_lowest hk hlow]))
    have hslots := State.slots_of_hideFrames hview
    refine ⟨?_, fun j hj => ?_, ?_⟩
    · rw [hslots]
      exact (congrArg (fun j : Fin 2 => (captureStart c .manual none s.channels[c].gen s).slots[k])
        (freeSlot_of_lowest hk hlow)).trans (by
          change (upd s.slots s.freeSlot _)[k] = _
          rw [freeSlot_of_lowest hk hlow, upd_same]
          rfl)
    · rw [hslots]
      change (upd s.slots s.freeSlot _)[j] = _
      rw [freeSlot_of_lowest hk hlow, upd_other _ _ _ _ hj]
    · rw [hslots]
      exact hview

section
variable {rq : Request} {k b : Byte} {s : State}

theorem at8_two (hargs : rq.args = [k, b]) : at8 rq.args 0 = k.toNat ∧ at8 rq.args 1 = b.toNat := by
  rw [hargs]
  exact ⟨rfl, rfl⟩

end

/-- What Read capture answers about slot `j` and block `b`. -/
def blockAnswer (x : Slot) (b : Nat) : Answer :=
  match x.state with
  | .free => .refused .empty
  | .filling => .plain .notNow
  | .held => if x.blocks ≤ b then .plain .badIndex else .ok (x.blockRecord b)

theorem readCapture_eq {rq : Request} {k b : Byte} {s : State} (hargs : rq.args = [k, b]) :
    readCapture rq s = indexed 2 k.toNat s fun j => (s, blockAnswer s.slots[j] b.toNat) := by
  obtain ⟨hslot, hblock⟩ := at8_two hargs
  rw [readCapture, sized_of_length _ (by rw [hargs]; rfl), hslot, hblock]
  congr 1
  funext j
  simp only [blockAnswer]
  cases s.slots[j].state with
  | free => rfl
  | filling => rfl
  | held => exact (apply_ite (Prod.mk s) _ _ _).symm

/-- Settles O48: the slot number, then the slot's state, then the block number. -/
theorem readAndReleaseCapture : Obligations.ReadAndReleaseCapture := by
  refine ⟨fun rq k b s hready hargs => ?_, fun rq k s hready hargs => ?_⟩
  · obtain ⟨t, ht, hans⟩ := exec_request (c := .readCapture rq) rfl hready
    by_cases hk : k.toNat < 2
    · have hdo : carryOut ⟨0x51, rq⟩ s = (s, blockAnswer s.slots[(⟨k.toNat, hk⟩ : Fin 2)] b.toNat) :=
        (readCapture_eq hargs).trans (indexed_of_lt _ hk)
      refine ⟨t, _, ht, hans _ _ hdo, fun hge => absurd hk (Nat.not_lt.mpr hge), fun j hj => ?_⟩
      obtain rfl : ⟨k.toNat, hk⟩ = j := Fin.ext hj
      refine ⟨fun h => ?_, fun h => ?_, fun h hge => ?_, fun h hlt => ?_⟩
      · simp only [blockAnswer, h]
      · simp only [blockAnswer, h]
      · simp only [blockAnswer, h]
        exact if_pos hge
      · simp only [blockAnswer, h]
        refine (if_neg (Nat.not_le.mpr hlt)).trans ?_
        simp only [Slot.blockRecord, Slot.block, u8, BitVec.ofNat_toNat, BitVec.setWidth_eq]
    · have hge : 2 ≤ k.toNat := Nat.not_lt.mp hk
      have hdo : carryOut ⟨0x51, rq⟩ s = (s, .plain .badIndex) :=
        (readCapture_eq hargs).trans (indexed_of_ge _ hge)
      exact ⟨t, _, ht, hans _ _ hdo, fun _ => rfl, fun j hj => absurd j.2 (by omega)⟩
  · obtain ⟨t, ht, hans⟩ := exec_request (c := .releaseCapture rq) rfl hready
    have hdo : ∀ f : Fin 2 → State × Answer, sized 1 rq s (indexed 2 (at8 rq.args 0) s f) = indexed 2 k.toNat s f :=
      fun f => by rw [sized_one hargs, at8_one hargs]
    have hrelease := hdo fun k => match s.slots[k].state with
      | .free => (s, .ok [])
      | .filling => (s, .plain .notNow)
      | .held => (s.modSlot k fun _ => Slot.init, .ok [])
    by_cases hk : k.toNat < 2
    · obtain ⟨j, hj⟩ : ∃ j : Fin 2, k.toNat = j.1 := ⟨⟨k.toNat, hk⟩, rfl⟩
      rw [hj, indexed_of_lt _ j.2] at hrelease
      have honly : ∀ i : Fin 2, k.toNat = i.1 → i = j := fun i hi => Fin.ext (hi.symm.trans hj)
      have hlow : 2 ≤ k.toNat → t.hideFrames = (s.answered 0x52 rq (.plain .badIndex)).hideFrames :=
        fun hge => absurd hk (Nat.not_lt.mpr hge)
      cases hstate : s.slots[j].state with
      | free =>
        have hview := hans s (.ok []) (hrelease.trans (by simp only [hstate]))
        have hqueue := State.queue_of_hideFrames hview
        refine ⟨t, ht, hqueue, hlow, fun i hi => ?_⟩
        obtain rfl := honly i hi
        rw [hstate]
        exact ⟨fun _ => hview, nofun, nofun⟩
      | filling =>
        have hview := hans s (.plain .notNow) (hrelease.trans (by simp only [hstate]))
        have hqueue := State.queue_of_hideFrames hview
        refine ⟨t, ht, hqueue, hlow, fun i hi => ?_⟩
        obtain rfl := honly i hi
        rw [hstate]
        exact ⟨nofun, fun _ => hview, nofun⟩
      | held =>
        have hview := hans (s.modSlot j fun _ => Slot.init) (.ok []) (hrelease.trans (by simp only [hstate]))
        have hqueue := State.queue_of_hideFrames hview
        have hslots := State.slots_of_hideFrames hview
        refine ⟨t, ht, hqueue, hlow, fun i hi => ?_⟩
        obtain rfl := honly i hi
        rw [hstate]
        refine ⟨nofun, nofun, fun _ => ?_⟩
        have hnew : t.slots[i] = Slot.init := by rw [hslots]; exact upd_same s.slots i _
        refine ⟨by rw [hnew]; rfl, by rw [hnew]; rfl, fun m hm => ?_, by rw [hslots]; exact hview⟩
        rw [hslots]
        exact upd_other s.slots i m _ hm
    · have hge : 2 ≤ k.toNat := Nat.not_lt.mp hk
      have hview := hans s (.plain .badIndex) (hrelease.trans (indexed_of_ge _ hge))
      have hqueue := State.queue_of_hideFrames hview
      exact ⟨t, ht, hqueue, fun _ => hview, fun j hj => absurd j.2 (by omega)⟩

/-! ### The evaluation of a maintenance entry (R141 to R144) -/

theorem moreAdvanced_eq (a b : MaintState) : moreAdvanced a b = if b.code ≤ a.code then a else b := by
  unfold moreAdvanced
  split
  next h => exact (if_neg (Nat.not_le.mpr h)).symm
  next h => exact (if_pos (Nat.not_lt.mp h)).symm

theorem evaluated_eq (x : MaintItem) (day : Option Nat) (grace : Nat) : x.evaluated day grace =
    if x.valid = false then .disabled
    else if (usagePart x.usage x.usageLimit).code ≤ (datePart day x.dueDay x.lead grace).code then
      datePart day x.dueDay x.lead grace
    else usagePart x.usage x.usageLimit := by
  rw [MaintItem.evaluated, moreAdvanced_eq]
  cases x.valid <;> rfl

theorem held_iff (i : IceState) : i.held = decide (i = .suspect ∨ i = .iced ∨ i = .thawing) := by cases i <;> rfl

theorem evaluate_of_same {n : Fin 96} {s : State}
    (h : s.items[n].evaluated s.scheduleDay s.tables.global.graceDays = s.items[n].state) : evaluate n s = s := if_pos h

theorem evaluate_of_change {n : Fin 96} {s : State} {new : MaintState}
    (hnew : new = s.items[n].evaluated s.scheduleDay s.tables.global.graceDays) (h : new ≠ s.items[n].state) :
    evaluate n s = maintNotice n s.items[n].state new (s.modItem n fun e => { e with state := new }) := by
  subst hnew
  exact if_neg h

theorem maintNotice_eq {n : Fin 96} {s : State} {x : MaintItem} (hx : s.items[n] = x) (old new : MaintState) :
    maintNotice n old new s = offer
      { cls := .maint, priority := 2, turbine := some x.turbine, subject := .entry n, old := BitVec.ofNat 8 old.code
        new := BitVec.ofNat 8 new.code, value := .usage x.usage, gen := s.generation
        accessHold := decide (s.ice[x.turbine].state = .suspect ∨ s.ice[x.turbine].state = .iced ∨
          s.ice[x.turbine].state = .thawing)
        noBaseline := false } s := by
  subst hx
  rw [← held_iff]
  rfl

/-- Settles O35: the parts by their thresholds; an evaluation writes the state it finds and offers its notice. -/
theorem entryEvaluation : Obligations.EntryEvaluation := by
  refine ⟨fun due lead grace => ⟨rfl, fun day => ⟨fun h => ?_, fun h h' => ?_, fun h h' => ?_, fun h => ?_⟩⟩, fun u l =>
    ⟨rfl, fun hpos => ⟨fun h => ?_, fun h h' => ?_, fun h h' => ?_, fun h => ?_⟩⟩, fun n x a b new s hx ha hb hnew => ?_⟩
  · simp only [datePart, if_pos h]
  · simp only [datePart, if_neg (Nat.not_le.mpr h'), if_pos h]
  · simp only [datePart, if_neg (show ¬ due + grace ≤ day by omega), if_neg (Nat.not_le.mpr h), if_pos h']
  · simp only [datePart, if_neg (show ¬ due + grace ≤ day by omega), if_neg (show ¬ due ≤ day by omega),
      if_neg (Int.not_le.mpr h)]
  · simp only [usagePart, if_neg hpos.ne', if_pos h]
  · simp only [usagePart, if_neg hpos.ne', if_neg (Nat.not_le.mpr h'), if_pos h]
  · simp only [usagePart, if_neg hpos.ne', if_neg (show ¬ 5 * l ≤ 4 * u by omega), if_neg (Nat.not_le.mpr h), if_pos h']
  · simp only [usagePart, if_neg hpos.ne', if_neg (show ¬ 5 * l ≤ 4 * u by omega), if_neg (show ¬ l ≤ u by omega),
      if_neg (Nat.not_le.mpr h)]
  · subst hx ha hb
    rw [← evaluated_eq] at hnew
    refine ⟨fun hsame => evaluate_of_same (hnew ▸ hsame), fun hother => ?_⟩
    have hitem : (s.modItem n fun e => { e with state := new }).items[n] = { s.items[n] with state := new } :=
      upd_same s.items n _
    rw [evaluate_of_change hnew hother, maintNotice_eq hitem]
    rfl

end Sys2Proof.Machine
end

section
/-! PROOFS. The requests on maintenance entries and on icing (R99, R100, R149 to R153): what an evaluation and a REPLACE
write, the tests of a Defer, and the override. -/

namespace Sys2Proof.Machine

/-! ### What an answered request shows of its effect -/

section
variable {s t : State} {code : Byte} {rq : Request} {a : Answer}

theorem State.tables_of_answered (h : t.hideFrames = (s.answered code rq a).hideFrames) : t.tables = s.tables := by
  rw [State.tables_of_hideFrames h]; rfl
theorem State.staged_of_answered (h : t.hideFrames = (s.answered code rq a).hideFrames) : t.staged = s.staged := by
  rw [State.staged_of_hideFrames h]; rfl
theorem State.items_of_answered (h : t.hideFrames = (s.answered code rq a).hideFrames) : t.items = s.items := by
  rw [State.items_of_hideFrames h]; rfl
theorem State.counts_of_answered (h : t.hideFrames = (s.answered code rq a).hideFrames) : t.counts = s.counts := by
  rw [State.counts_of_hideFrames h]; rfl
theorem State.channels_of_answered (h : t.hideFrames = (s.answered code rq a).hideFrames) : t.channels = s.channels := by
  rw [State.channels_of_hideFrames h]; rfl
theorem State.insts_of_answered (h : t.hideFrames = (s.answered code rq a).hideFrames) : t.insts = s.insts := by
  rw [State.insts_of_hideFrames h]; rfl
theorem State.ice_of_answered (h : t.hideFrames = (s.answered code rq a).hideFrames) : t.ice = s.ice := by
  rw [State.ice_of_hideFrames h]; rfl
theorem State.points_of_answered (h : t.hideFrames = (s.answered code rq a).hideFrames) : t.points = s.points := by
  rw [State.points_of_hideFrames h]; rfl
theorem State.slots_of_answered (h : t.hideFrames = (s.answered code rq a).hideFrames) : t.slots = s.slots := by
  rw [State.slots_of_hideFrames h]; rfl
theorem State.scheduleDay_of_answered (h : t.hideFrames = (s.answered code rq a).hideFrames) : t.scheduleDay = s.scheduleDay := by
  rw [State.scheduleDay_of_hideFrames h]; rfl
theorem State.generation_of_answered (h : t.hideFrames = (s.answered code rq a).hideFrames) : t.generation = s.generation := by
  rw [State.generation_of_hideFrames h]; rfl
theorem State.landing_of_answered (h : t.hideFrames = (s.answered code rq a).hideFrames) : t.landing = s.landing := by
  rw [State.landing_of_hideFrames h]; rfl
theorem State.analysis_of_answered (h : t.hideFrames = (s.answered code rq a).hideFrames) : t.analysis = s.analysis := by
  rw [State.analysis_of_hideFrames h]; rfl
theorem State.channelReport_of_answered (h : t.hideFrames = (s.answered code rq a).hideFrames) : t.channelReport = s.channelReport := by
  rw [State.channelReport_of_hideFrames h]; rfl
theorem State.gridReport_of_answered (h : t.hideFrames = (s.answered code rq a).hideFrames) : t.gridReport = s.gridReport := by
  rw [State.gridReport_of_hideFrames h]; rfl
theorem State.errors_of_answered (h : t.hideFrames = (s.answered code rq a).hideFrames) : t.errors = s.errors := by
  rw [State.errors_of_hideFrames h]; rfl
theorem State.clock_of_answered (h : t.hideFrames = (s.answered code rq a).hideFrames) : t.clock = s.clock := by
  rw [State.clock_of_hideFrames h]; rfl
theorem State.node_of_answered (h : t.hideFrames = (s.answered code rq a).hideFrames) : t.node = s.node := by
  rw [State.node_of_hideFrames h]; rfl

theorem State.queue_of_answered (h : t.hideFrames = (s.answered code rq a).hideFrames) :
    t.notices.queue = s.notices.queue := by
  rw [State.queue_of_hideFrames h]; rfl

theorem State.next_of_answered (h : t.hideFrames = (s.answered code rq a).hideFrames) :
    t.notices.next = s.notices.next := by
  rw [State.next_of_hideFrames h]; rfl

theorem State.turbine_of_answered (h : t.hideFrames = (s.answered code rq a).hideFrames) (k : Fin 8) :
    t.turbines[k] = { s.turbines[k] with advisory := t.turbines[k].advisory } := turbine_of_hideFrames h k

theorem State.reply_of_answered (h : t.hideFrames = (s.answered code rq a).hideFrames) :
    ∃ r, t.mgmt.reply = some r ∧ r.answer = a := by
  rw [State.mgmt_of_hideFrames h]
  exact ⟨_, rfl, rfl⟩

end

/-! ### Whole blocks outside a footprint -/

section
variable {W : Footprint} {s t : State}

theorem Moves.insts_eq (h : Moves W s t) (hi : ∀ i, ¬ W.inst i) : t.insts = s.insts :=
  vector_ext_fin fun i => h.inst_stands (hi i)

theorem Moves.channels_eq (h : Moves W s t) (hc : ∀ c, ¬ W.channel c) : t.channels = s.channels :=
  vector_ext_fin fun c => h.channel_stands (hc c)

theorem Moves.points_eq (h : Moves W s t) (hp : ∀ p, ¬ W.point p) : t.points = s.points :=
  vector_ext_fin fun p => h.point_stands (hp p)

end

/-! ### What an evaluation and a REPLACE write -/

section
variable {s : State} {n : Fin 96}

/-- An evaluation writes its own entry's state and offers notices. -/
theorem evaluate_own (n : Fin 96) (s : State) : Moves { Footprint.nothing with items := True } s (evaluate n s) :=
  evaluate_moves n trivial .refl

theorem offer_items (o : Offer) (s : State) : (offer o s).items = s.items := by
  obtain ⟨q, e, heq⟩ := offer_eq o s
  rw [heq]

theorem evaluate_items (n : Fin 96) (s : State) : (evaluate n s).items =
    upd s.items n fun e => { e with state := s.items[n].evaluated s.scheduleDay s.tables.global.graceDays } := by
  by_cases h : s.items[n].evaluated s.scheduleDay s.tables.global.graceDays = s.items[n].state
  · rw [evaluate_of_same h]
    exact (upd_id (by rw [h])).symm
  · rw [evaluate_of_change rfl h]
    exact offer_items _ _

theorem evaluate_items_same (n : Fin 96) (s : State) : (evaluate n s).items[n] =
    { s.items[n] with state := s.items[n].evaluated s.scheduleDay s.tables.global.graceDays } := by
  rw [evaluate_items, upd_same]

theorem evaluate_items_other {m : Fin 96} (n : Fin 96) (s : State) (h : m ≠ n) : (evaluate n s).items[m] = s.items[m] := by
  rw [evaluate_items, upd_other _ _ _ _ h]

theorem replaceEffects_of_vib {ids : List (Fin 96)} {w : Vector Nat 4} (ht : s.items[n].task = .replace)
    (hs : s.items[n].source = .vib ids w) : replaceEffects n s = ids.foldl (fun s i => resetAlarm i s) s := by
  simp only [replaceEffects, if_pos ht, hs]

theorem resetAlarm_insts (i : Fin 96) (s : State) :
    (resetAlarm i s).insts = upd s.insts i fun x => { x with alarm := AlarmRecord.init } := by
  simp only [resetAlarm]
  split
  · exact (Moves.offer (W := .nothing) _ .refl).insts_eq fun _ => id
  · rfl

theorem resetAlarms_insts (ids : List (Fin 96)) (s : State) (i : Fin 96) :
    (ids.foldl (fun s i => resetAlarm i s) s).insts[i] =
      if i ∈ ids then { s.insts[i] with alarm := AlarmRecord.init } else s.insts[i] := by
  induction ids generalizing s with
  | nil => rfl
  | cons j ids ih =>
    rw [List.foldl_cons, ih, resetAlarm_insts, upd_get]
    by_cases hj : i = j
    · subst hj
      simp only [if_pos, List.mem_cons_self, ite_self]
    · simp only [hj, List.mem_cons, false_or, if_false]

end

/-! ### Done (R149 to R151) -/

section
variable {rq : Request} {n : Fin 96} {s : State}

theorem replaceEffects_of_ice {w : Nat} (ht : s.items[n].task = .replace) (hs : s.items[n].source = .ice w) :
    replaceEffects n s = resetBaselines s.items[n].turbine s := by
  simp only [replaceEffects, if_pos ht, hs]

theorem replaceEffects_of_other_task (ht : s.items[n].task ≠ .replace) : replaceEffects n s = s := if_neg ht

/-- A REPLACE resets the alarm records its VIB source lists (R150). -/
theorem replaceEffects_insts {tk : Task} {src : UsageSource} (ht : s.items[n].task = tk) (hs : s.items[n].source = src)
    (i : Fin 96) : (replaceEffects n s).insts[i] =
      match tk, src with
      | .replace, .vib ids _ => if i ∈ ids then { s.insts[i] with alarm := ⟨0, 0, none, 0, none⟩ } else s.insts[i]
      | _, _ => s.insts[i] := by
  cases tk with
  | replace =>
    cases src with
    | vib ids w => rw [replaceEffects_of_vib ht hs, resetAlarms_insts]; rfl
    | ice w => rw [replaceEffects_of_ice ht hs]; rfl
    | _ => simp only [replaceEffects, if_pos ht, hs]
  | _ => rw [replaceEffects_of_other_task (by rw [ht]; decide)]

/-- A REPLACE resets the baselines of its turbine for an ICE source (R151). -/
theorem replaceEffects_baselines {tk : Task} {src : UsageSource} {x : Fin 8} (ht : s.items[n].task = tk)
    (hs : s.items[n].source = src) (hx : s.items[n].turbine = x) (k : Fin 8) : (replaceEffects n s).ice[k] =
      match tk, src with
      | .replace, .ice _ =>
        if k = x then
          { s.ice[k] with blades := tabulate 3 fun b => { s.ice[k].blades[b] with b16 := 0, status := .none } }
        else s.ice[k]
      | _, _ => s.ice[k] := by
  cases tk with
  | replace =>
    cases src with
    | vib ids w =>
      rw [replaceEffects_of_vib ht hs]
      exact (Moves.foldl (W := { Footprint.nothing with inst := fun _ => True })
        (fun t i h => resetAlarm_moves i trivial h) .refl).ice_stands id
    | ice w => rw [replaceEffects_of_ice ht hs, hx]; exact upd_get _ _ _ _
    | _ => simp only [replaceEffects, if_pos ht, hs]
  | _ => rw [replaceEffects_of_other_task (by rw [ht]; decide)]

/-- An entry done today and evaluated. -/
def doneState (n : Fin 96) (today : Nat) (s : State) : State := evaluate n (s.modItem n fun e => e.done today)

theorem doneState_own (n : Fin 96) (today : Nat) (s : State) :
    ∃ st, (doneState n today s).items[n] = { s.items[n].done today with state := st } := by
  have hdone : (s.modItem n fun e => e.done today).items[n] = s.items[n].done today := upd_same s.items n _
  have heval := evaluate_items_same n (s.modItem n fun e => e.done today)
  rw [hdone] at heval
  exact ⟨_, heval⟩

theorem doneEntry_of_day {d : Nat} (hv : s.items[n].valid = true) (hd : s.scheduleDay = some d) :
    doneEntry n s = (replaceEffects n (doneState n d s), .ok []) := by
  simp only [doneEntry, if_pos hv, hd]
  rfl

end

/-- Settles O49: the entry is renewed and evaluated, and a REPLACE resets what its source names. -/
theorem doneStartsNewInterval : Obligations.DoneStartsNewInterval := by
  intro rq n s hready hargs
  obtain ⟨t, ht, hans⟩ := exec_request (c := .done rq) rfl hready
  have hdo : carryOut ⟨0x60, rq⟩ s = doneEntry n s := sized_indexed n (by decide) (fun n => doneEntry n s) hargs
  refine ⟨t, ht, fun hv => hans _ _ (hdo.trans ?_), fun hv hd => hans _ _ (hdo.trans ?_), fun d hv hd => ?_⟩
  · simp only [doneEntry, hv, Bool.false_eq_true, if_false]
  · simp only [doneEntry, hv, if_true, hd]
  · have hview := hans _ _ (hdo.trans (doneEntry_of_day hv hd))
    obtain ⟨st, hown⟩ := doneState_own n d s
    have hmoves : Moves { Footprint.nothing with inst := fun _ => True, ice := fun _ => True } (doneState n d s)
        (replaceEffects n (doneState n d s)) := replaceEffects_moves n (fun _ => trivial) (fun _ => trivial) .refl
    have heval : Moves { Footprint.nothing with items := True } (s.modItem n fun e => e.done d) (doneState n d s) :=
      evaluate_own n _
    have hitems : t.items = (doneState n d s).items := (State.items_of_answered hview).trans (hmoves.items_stand id)
    have hitem : t.items[n] = { s.items[n].done d with state := st } := by rw [hitems, hown]
    have htask : (doneState n d s).items[n].task = s.items[n].task := by rw [hown]; rfl
    have hsource : (doneState n d s).items[n].source = s.items[n].source := by rw [hown]; rfl
    have hturbine : (doneState n d s).items[n].turbine = s.items[n].turbine := by rw [hown]; rfl
    have hinsts := State.insts_of_answered hview
    have hice := State.ice_of_answered hview
    have hinsts' : (doneState n d s).insts = s.insts := heval.insts_eq fun _ => id
    have hice' : (doneState n d s).ice = s.ice := heval.ice_eq fun _ => id
    have hreply := State.reply_of_answered hview
    refine ⟨by rw [hitem]; rfl, by rw [hitem]; rfl, by rw [hitem]; rfl, by rw [hitem]; rfl, by rw [hitem]; rfl,
      by rw [hitem]; rfl, fun m hm => ?_, hreply, ?_, ?_, ?_, ?_,
      fun i => ?_, fun k => ?_⟩
    · rw [hitems]
      exact (evaluate_items_other n _ hm).trans (upd_other s.items n m _ hm)
    · exact (State.tables_of_answered hview).trans (State.tables_of_shell (hmoves.shell.trans heval.shell))
    · exact (State.channels_of_answered hview).trans
        ((hmoves.channels_eq fun _ => id).trans (heval.channels_eq fun _ => id))
    · exact (State.slots_of_answered hview).trans ((hmoves.slots_stand id).trans (heval.slots_stand id))
    · exact (State.scheduleDay_of_answered hview).trans ((hmoves.day_stands id).trans (heval.day_stands id))
    · rw [hinsts, ← hinsts']
      exact replaceEffects_insts htask hsource i
    · rw [hice, ← hice']
      exact replaceEffects_baselines htask hsource hturbine k

/-! ### Defer (R152, R153) -/

section
variable {n : Fin 96} {s : State}

theorem usage_due_iff (x : MaintItem) :
    (usagePart x.usage x.usageLimit = .due ∨ usagePart x.usage x.usageLimit = .overdue) ↔
      0 < x.usageLimit ∧ x.usageLimit ≤ x.usage := by
  unfold usagePart
  repeat' split
  all_goals simp
  all_goals omega

theorem deferRefused_of_valid (hv : s.items[n].valid = true) (hd : s.scheduleDay.isSome = true) :
    s.deferRefused n =
      if s.items[n].deferrals = 3 then some .limit
      else if usagePart s.items[n].usage s.items[n].usageLimit = .due ∨
        usagePart s.items[n].usage s.items[n].usageLimit = .overdue then some .usageDue
      else if s.dangerListed s.items[n] then some .condition else none := by
  have hday : s.scheduleDay ≠ none := Option.isSome_iff_ne_none.mp hd
  simp only [State.deferRefused, hv, Bool.not_true, Bool.false_eq_true, if_false, if_neg hday]

theorem deferEntry_refused {days : Nat} {r : RefusalReason} (hpos : 0 < days) (h : s.deferRefused n = some r) :
    deferEntry n days s = (s, .refused r) := by
  simp only [deferEntry, if_neg hpos.ne', h]

theorem deferEntry_passed {days : Nat} (hpos : 0 < days) (h : s.deferRefused n = none) : deferEntry n days s =
    (evaluate n (s.modItem n fun e => e.defer (min days 90)), .plain (if 90 < days then .okAdjusted else .ok)) := by
  simp only [deferEntry, if_neg hpos.ne', h]

end

/-- Settles O50: the tests of R152 in order, then the day moved and the deferral counted. -/
theorem deferMovesDueDay : Obligations.DeferMovesDueDay := by
  intro rq n hi lo days s hready hargs hdays
  obtain ⟨t, ht, hans⟩ := exec_request (c := .defer rq) rfl hready
  have hentry : at8 rq.args 0 = n.1 := by rw [hargs]; exact Nat.mod_eq_of_lt (by omega)
  have hcount : at16 rq.args 1 = days := by rw [hargs, hdays]; rfl
  have hdo : carryOut ⟨0x61, rq⟩ s = deferEntry n days s := by
    change sized 3 rq s (indexed 96 (at8 rq.args 0) s fun n => deferEntry n (at16 rq.args 1) s) = _
    rw [sized_of_length _ (by rw [hargs]; rfl), hentry, indexed_of_lt _ n.2, hcount]
  have hrefuse : ∀ r, 0 < days → s.deferRefused n = some r →
      t.hideFrames = (s.answered 0x61 rq (.refused r)).hideFrames :=
    fun r hpos hr => hans _ _ (hdo.trans (deferEntry_refused hpos hr))
  refine ⟨t, ht, fun hzero => hans _ _ (hdo.trans (if_pos hzero)), fun hpos hv => hrefuse _ hpos ?_,
    fun hpos hv hd => hrefuse _ hpos ?_, fun hpos hv hd hlimit => hrefuse _ hpos ?_,
    fun hpos hv hd hlimit hl hu => hrefuse _ hpos ?_, fun hpos hv hd hlimit husage => ⟨fun hlisted => hrefuse _ hpos ?_,
      fun hlisted => ?_⟩⟩
  · simp only [State.deferRefused, hv, Bool.not_false, if_true]
  · simp only [State.deferRefused, hv, Bool.not_true, Bool.false_eq_true, if_false, hd, if_true]
  · rw [deferRefused_of_valid hv hd, if_pos hlimit]
  · rw [deferRefused_of_valid hv hd, if_neg hlimit, if_pos ((usage_due_iff _).mpr ⟨hl, hu⟩)]
  · have hbelow : ¬ (0 < s.items[n].usageLimit ∧ s.items[n].usageLimit ≤ s.items[n].usage) := by omega
    rw [deferRefused_of_valid hv hd, if_neg hlimit, if_neg (by rwa [usage_due_iff]), if_pos hlisted]
  · have hbelow : ¬ (0 < s.items[n].usageLimit ∧ s.items[n].usageLimit ≤ s.items[n].usage) := by omega
    have hnone : s.deferRefused n = none := by
      rw [deferRefused_of_valid hv hd, if_neg hlimit, if_neg (by rwa [usage_due_iff]), hlisted,
        if_neg Bool.false_ne_true]
    have hview := hans _ _ (hdo.trans (deferEntry_passed hpos hnone))
    have hmoves := evaluate_own n (s.modItem n fun e => e.defer (min days 90))
    have hitems := State.items_of_answered hview
    have hown : (s.modItem n fun e => e.defer (min days 90)).items[n] = s.items[n].defer (min days 90) :=
      upd_same s.items n _
    have hitem := evaluate_items_same n (s.modItem n fun e => e.defer (min days 90))
    rw [hown, ← hitems] at hitem
    refine ⟨by rw [hitem]; rfl, by rw [hitem]; rfl, by rw [hitem]; rfl, by rw [hitem]; rfl, fun m hm => ?_,
      State.reply_of_answered hview, ?_, ?_, ?_⟩
    · rw [hitems]
      exact (evaluate_items_other n _ hm).trans (upd_other s.items n m _ hm)
    · exact (State.tables_of_answered hview).trans (State.tables_of_shell hmoves.shell)
    · exact (State.insts_of_answered hview).trans (hmoves.insts_eq fun _ => id)
    · exact (State.ice_of_answered hview).trans (hmoves.ice_eq fun _ => id)

/-! ### Icing (R99, R100) -/

section
variable {k : Fin 8} {s : State}

theorem overrideIce_of_clear (h : s.ice[k].state = .clear) :
    overrideIce k s = s.modIce k fun r => r.counts .clear 0 0 0 := if_pos h

/-- Outside CLEAR an override also takes the curtail request back; what follows only offers notices (R94 to R98). -/
theorem overrideIce_of_not_clear (h : s.ice[k].state ≠ .clear) :
    Moves .nothing (writeCurtail k .none (s.modIce k fun r => r.counts .clear 0 0 0)) (overrideIce k s) := by
  have hrun : overrideIce k s = holdReports k s.ice[k].state .clear
      (iceNotice k s.ice[k].state s.turbines[k].curtail .nothing .absent
        (writeCurtail k .none (s.modIce k fun r => r.counts .clear 0 0 0)).generation false
        (writeCurtail k .none (s.modIce k fun r => r.counts .clear 0 0 0))) := if_neg h
  rw [hrun]
  exact holdReports_moves _ _ _ (.offer _ .refl)

theorem overrideIce_ice (k : Fin 8) (s : State) :
    (overrideIce k s).ice = upd s.ice k fun r => { r with state := .clear, evidence := 0, clear := 0, thaw := 0 } := by
  by_cases h : s.ice[k].state = .clear
  · rw [overrideIce_of_clear h]
    rfl
  · rw [(overrideIce_of_not_clear h).ice_eq fun _ => id, writeCurtail_ice]
    rfl

theorem producing_iff (x : Turbine) : x.producing = true ↔ x.freshness ≠ .none ∧ x.status.op = .producing := by
  simp [Turbine.producing]

end

/-- Settles O51: the override is refused in PRODUCING alone; the reset writes the blades alone. -/
theorem iceOverrideAndBaselineReset : Obligations.IceOverrideAndBaselineReset := by
  intro rq k s hready hargs
  obtain ⟨t, ht, htans⟩ := exec_request (c := .iceOverride rq) rfl hready
  obtain ⟨u, hu, huans⟩ := exec_request (c := .baselineReset rq) rfl hready
  have hdo : carryOut ⟨0x70, rq⟩ s = if s.turbines[k].producing then (s, .refused .producing) else (overrideIce k s, .ok []) :=
    sized_indexed k (by decide) (fun k => if s.turbines[k].producing then (s, .refused .producing)
      else (overrideIce k s, .ok [])) hargs
  have hreset : carryOut ⟨0x71, rq⟩ s = (resetBaselines k s, .ok []) :=
    sized_indexed k (by decide) (fun k => (resetBaselines k s, .ok [])) hargs
  refine ⟨t, u, ht, hu, fun hfresh hop => htans _ _ (hdo.trans ?_), fun hidle => ?_, huans _ _ hreset⟩
  · exact if_pos ((producing_iff _).mpr ⟨hfresh, hop⟩)
  · have hnot : ¬ s.turbines[k].producing = true := by
      rw [producing_iff]
      tauto
    have hview := htans _ _ (hdo.trans (if_neg hnot))
    have hice := State.ice_of_answered hview
    rw [overrideIce_ice] at hice
    have hmoves : Moves { Footprint.nothing with ice := (· = k) } s (overrideIce k s) := overrideIce_moves k rfl .refl
    refine ⟨by rw [hice, upd_same], fun hstate => ?_, fun j hj => ⟨by rw [hice, upd_other _ _ _ _ hj], ?_⟩,
      State.reply_of_answered hview, fun hstate => ?_, ?_, ?_⟩
    · rw [State.turbine_of_answered hview k]
      change (overrideIce k s).turbines[k].curtail = .none
      rw [(overrideIce_of_not_clear hstate).curtail_stands id]
      obtain ⟨a, heq⟩ := writeCurtail_eq k .none (s.modIce k fun r => r.counts .clear 0 0 0)
      rw [heq]
      exact congrArg Turbine.curtail (upd_same s.turbines k _)
    · rw [State.turbine_of_answered hview j]
      exact hmoves.curtail_stands hj
    · rw [State.queue_of_answered hview, overrideIce_of_clear hstate]
      rfl
    · exact (State.tables_of_answered hview).trans (State.tables_of_shell hmoves.shell)
    · exact (State.insts_of_answered hview).trans (hmoves.insts_eq fun _ => id)

end Sys2Proof.Machine
end

section
/-! PROOFS. Apply: the checks of R202 in their order, what becomes current, and the loads of the maintenance entries
(R132, R133, R202, R203). -/

namespace Sys2Proof.Machine

/-! ### Loops in which each step writes its own part -/

theorem foldl_each {α : Type} {n : Nat} {P : State → Prop} (get : State → Fin n → α) {f : Fin n → State → State}
    {g : Fin n → α → α} (hP : ∀ i s, P s → P (f i s)) (hown : ∀ i s, P s → get (f i s) i = g i (get s i))
    (hother : ∀ i j s, P s → j ≠ i → get (f i s) j = get s j) (l : List (Fin n)) (hl : l.Nodup) {s : State} (h : P s)
    (j : Fin n) : get (l.foldl (fun s i => f i s) s) j = if j ∈ l then g j (get s j) else get s j := by
  induction l generalizing s with
  | nil => rfl
  | cons i l ih =>
    obtain ⟨hi, hl⟩ := List.nodup_cons.mp hl
    rw [List.foldl_cons, ih hl (hP i s h)]
    by_cases hj : j = i
    · subst hj
      rw [if_neg hi, if_pos List.mem_cons_self, hown j s h]
    · rw [hother i j s h hj]
      exact if_congr (by simp only [List.mem_cons, hj, false_or]) rfl rfl

/-- In a loop over all indexes where step `i` changes part `i` by `g i` and no other part, each part is changed once. -/
theorem forAll_each {α : Type} {n : Nat} {P : State → Prop} (get : State → Fin n → α) {f : Fin n → State → State}
    {g : Fin n → α → α} (hP : ∀ i s, P s → P (f i s)) (hown : ∀ i s, P s → get (f i s) i = g i (get s i))
    (hother : ∀ i j s, P s → j ≠ i → get (f i s) j = get s j) {s : State} (h : P s) (j : Fin n) :
    get (forAll n f s) j = g j (get s j) :=
  (foldl_each get hP hown hother (List.finRange n) (List.nodup_finRange n) h j).trans (if_pos (List.mem_finRange j))

/-! ### The checks (R202) -/

theorem find?_finRange_of_lowest {n : Nat} {p : Fin n → Bool} {j : Fin n} (hj : p j = true)
    (hlow : ∀ i : Fin n, i < j → ¬ p i = true) : (List.finRange n).find? p = some j := by
  rw [List.find?_eq_some_iff_getElem]
  refine ⟨hj, j.1, by simp, by simp, fun i hi => ?_⟩
  have := hlow ⟨i, hi.trans j.2⟩ hi
  simpa using this

theorem find?_finRange_of_none {n : Nat} {p : Fin n → Bool} (h : ∀ i, ¬ p i = true) : (List.finRange n).find? p = none :=
  List.find?_eq_none.mpr fun i _ => h i

section
variable {v : Tables}

theorem conflict_iff (v : Tables) (j : Fin 64) : (v.streams[j].valid && v.streams[j].feed.exclusive &&
      (List.finRange 64).any fun i =>
        decide (i < j) && v.streams[i].valid && decide (v.streams[i].feed = v.streams[j].feed)) = true ↔ v.Conflicts j := by
  have hexcl : ∀ f : StreamFeed, f.exclusive = true ↔ ∀ x, f ≠ .ignore x := by
    intro f
    cases f <;> simp [StreamFeed.exclusive]
  simp only [Tables.Conflicts, Bool.and_eq_true, List.any_eq_true, List.mem_finRange, true_and, decide_eq_true_eq, hexcl,
    and_assoc]

theorem conflict_of_lowest {j : Fin 64} (hj : v.Conflicts j) (hlow : ∀ i : Fin 64, i < j → ¬ v.Conflicts i) :
    v.conflict = some j :=
  find?_finRange_of_lowest ((conflict_iff v j).mpr hj) fun i hi h => hlow i hi ((conflict_iff v i).mp h)

theorem all_toList_iff {α : Type} {n : Nat} (w : Vector α n) (p : α → Bool) :
    w.toList.all p = true ↔ ∀ i : Fin n, p w[i] = true := by
  simp only [List.all_eq_true, Vector.mem_toList_iff, Vector.mem_iff_getElem]
  exact ⟨fun h i => h _ ⟨i.1, i.2, rfl⟩, fun h x ⟨i, hi, hx⟩ => hx ▸ h ⟨i, hi⟩⟩

theorem bindsInvalid_iff (v : Tables) (c : Fin 24) :
    (!v.channels[c].bindings.toList.all v.bindingSound) = true ↔ v.BindsInvalid c := by
  rw [Bool.not_eq_true', ← Bool.not_eq_true, all_toList_iff, not_forall]
  refine exists_congr fun p => ?_
  cases hb : v.channels[c].bindings[p] with
  | none => simp [Tables.bindingSound]
  | some b => simp [Tables.bindingSound]

theorem badBinding_of_lowest {c : Fin 24} (hc : v.BindsInvalid c) (hlow : ∀ b : Fin 24, b < c → ¬ v.BindsInvalid b) :
    v.badBinding = some c :=
  find?_finRange_of_lowest ((bindsInvalid_iff v c).mpr hc) fun i hi h => hlow i hi ((bindsInvalid_iff v i).mp h)

theorem badBinding_none (h : ∀ c : Fin 24, ¬ v.BindsInvalid c) : v.badBinding = none :=
  find?_finRange_of_none fun c hc => h c ((bindsInvalid_iff v c).mp hc)

theorem trackSound_iff (v : Tables) (k : Fin 8) (i : Fin 96) : v.trackSound k i = true ↔
    v.channels[instChannel i].turbine = k ∧
      ∃ b, v.channels[instChannel i].bindings[instPos i] = some b ∧ v.bands[b].valid = true ∧ v.bands[b].role = .track := by
  rw [Tables.trackSound, Bool.and_eq_true, decide_eq_true_eq]
  refine and_congr_right fun _ => ?_
  cases v.channels[instChannel i].bindings[instPos i] with
  | none => simp
  | some b => simp

theorem tracksUnsound_iff (v : Tables) (k : Fin 8) :
    (v.ice[k].valid && !v.ice[k].track.all (v.trackSound k)) = true ↔ v.TracksUnsound k := by
  rw [Bool.and_eq_true, Bool.not_eq_true', List.all_eq_false]
  refine and_congr_right fun _ => exists_congr fun i => and_congr_right fun _ => ?_
  rw [trackSound_iff]

theorem badIce_of_lowest {k : Fin 8} (hk : v.TracksUnsound k) (hlow : ∀ j : Fin 8, j < k → ¬ v.TracksUnsound j) :
    v.badIce = some k :=
  find?_finRange_of_lowest ((tracksUnsound_iff v k).mpr hk) fun i hi h => hlow i hi ((tracksUnsound_iff v i).mp h)

theorem badIce_none (h : ∀ k : Fin 8, ¬ v.TracksUnsound k) : v.badIce = none :=
  find?_finRange_of_none fun k hk => h k ((tracksUnsound_iff v k).mp hk)

end

/-! ### The maintenance loads (R132, R133) -/

section
variable {s : State}

/-- The state with the marked entries loaded and the marks removed. -/
def loadedState (s : State) : State :=
  { s with items := loadedItems s, staged := { s.staged with marks := Vector.replicate 96 false } }

/-- One entry's turn in the evaluations of an Apply. -/
def evaluateIf (marks : Vector Bool 96) (graceChanged : Bool) (n : Fin 96) (s : State) : State :=
  if marks[n] || (graceChanged && s.items[n].valid) then evaluate n s else s

theorem applyMaintenance_eq (graceChanged : Bool) (s : State) :
    applyMaintenance graceChanged s = forAll 96 (evaluateIf s.staged.marks graceChanged) (loadedState s) := rfl

theorem evaluateIf_moves (marks : Vector Bool 96) (graceChanged : Bool) (n : Fin 96) (s : State) :
    Moves { Footprint.nothing with items := True } s (evaluateIf marks graceChanged n s) := by
  unfold evaluateIf
  split
  · exact evaluate_own n s
  · exact .refl

theorem applyMaintenance_moves (graceChanged : Bool) (s : State) :
    Moves { Footprint.nothing with items := True } (loadedState s) (applyMaintenance graceChanged s) :=
  Moves.refl.forAll fun n t h => h.trans (evaluateIf_moves s.staged.marks graceChanged n t)

/-- Each entry that is loaded, or valid when the grace days change, is evaluated once. -/
theorem applyMaintenance_items (graceChanged : Bool) (s : State) (m : Fin 96) :
    (applyMaintenance graceChanged s).items[m] =
      if s.staged.marks[m] || (graceChanged && (loadedItems s)[m].valid) then
        { (loadedItems s)[m] with
          state := (loadedItems s)[m].evaluated s.scheduleDay s.tables.global.graceDays }
      else (loadedItems s)[m] := by
  refine forAll_each (P := fun t => t.scheduleDay = s.scheduleDay ∧ t.tables = s.tables)
    (fun t n => t.items[n]) (f := evaluateIf s.staged.marks graceChanged)
    (g := fun n x => if s.staged.marks[n] || (graceChanged && x.valid) then
      { x with state := x.evaluated s.scheduleDay s.tables.global.graceDays } else x) ?_ ?_ ?_
    (s := loadedState s) ⟨rfl, rfl⟩ m
  · rintro n t ⟨hday, htables⟩
    have hmoves := evaluateIf_moves s.staged.marks graceChanged n t
    exact ⟨(hmoves.day_stands id).trans hday, (State.tables_of_shell hmoves.shell).trans htables⟩
  · rintro n t ⟨hday, htables⟩
    simp only [evaluateIf]
    split
    · rw [evaluate_items_same, hday, htables]
    · rfl
  · intro n j t _ hj
    simp only [evaluateIf]
    split
    · exact evaluate_items_other n t hj
    · rfl

end

/-! ### What an Apply that passes leaves and what becomes current (R203) -/

section
variable {s : State}

/-- The tables after the blocks' part of an Apply: the loads have still to come. -/
def blocksApplied (s : State) : State := applyBlocks s.tables (landTables s)

theorem blocksApplied_shell (s : State) : (blocksApplied s).shell = (landTables s).shell := applyBlocks_shell _ _

theorem blocksApplied_moves (s : State) :
    Moves { Footprint.all with items := False, day := False } (landTables s) (blocksApplied s) :=
  applyBlocks_moves _ trivial (fun _ => trivial) (fun _ => trivial) trivial trivial (fun _ => trivial)
    (fun _ => trivial) trivial .refl

theorem blocksApplied_items (s : State) : (blocksApplied s).items = s.items := (blocksApplied_moves s).items_stand id
theorem blocksApplied_day (s : State) : (blocksApplied s).scheduleDay = s.scheduleDay := (blocksApplied_moves s).day_stands id
theorem blocksApplied_tables (s : State) : (blocksApplied s).tables = s.staged.tables :=
  State.tables_of_shell (blocksApplied_shell s)
theorem blocksApplied_staged (s : State) : (blocksApplied s).staged = s.staged := by
  rw [State.staged_of_shell (blocksApplied_shell s)]; rfl

theorem applyEffect_blocks (s : State) : applyEffect s = suspendCheck (applyMaintenance
    (decide (s.tables.global.graceDays ≠ s.staged.tables.global.graceDays)) (blocksApplied s)) := by
  rw [applyEffect_eq, ← blocksApplied_tables s]
  rfl

/-- After the blocks, an Apply only loads and evaluates maintenance entries and makes the report of a suspension. -/
theorem applyEffect_moves (s : State) :
    Moves { Footprint.nothing with items := True, analysis := True } (loadedState (blocksApplied s)) (applyEffect s) := by
  rw [applyEffect_blocks]
  exact suspendCheck_moves trivial (Moves.forAll (fun n t h => by
    split
    · exact evaluate_moves n trivial h
    · exact h) .refl)

theorem applyEffect_shell (s : State) : (applyEffect s).shell =
    (loadedState { s with tables := s.staged.tables, generation := (s.generation + 1) % 65536 }).shell := by
  rw [(applyEffect_moves s).shell]
  have h := blocksApplied_shell s
  generalize blocksApplied s = u at h
  simp only [State.shell, Shell.mk.injEq, landTables] at h
  obtain ⟨hr, hn, hl, hc, hm, ht, hs, hg, hgen, hp⟩ := h
  simp only [State.shell, loadedState, hr, hn, hl, hc, hm, ht, hs, hg, hgen, hp]

theorem applyEffect_items (s : State) (m : Fin 96) : (applyEffect s).items[m] =
      if s.staged.marks[m] || (decide (s.tables.global.graceDays ≠ s.staged.tables.global.graceDays) &&
        (loadedItems s)[m].valid) then
        { (loadedItems s)[m] with
          state := (loadedItems s)[m].evaluated s.scheduleDay s.staged.tables.global.graceDays }
      else (loadedItems s)[m] := by
  have hloads : loadedItems (blocksApplied s) = loadedItems s := by
    simp only [loadedItems, blocksApplied_staged, blocksApplied_items]
  rw [applyEffect_blocks, (suspendCheck_moves (W := { Footprint.nothing with analysis := True }) trivial .refl).items_stand id,
    applyMaintenance_items, hloads, blocksApplied_staged, blocksApplied_tables, blocksApplied_day]

end

theorem applyRequest_refused {rq : Request} {s : State} {a : Answer} (hargs : rq.args = []) (h : s.applyRefused = some a) :
    applyRequest rq s = (s, a) := by
  rw [applyRequest, sized_of_length _ (by rw [hargs]; rfl)]
  simp only [h]

theorem applyRequest_passed {rq : Request} {s : State} (hargs : rq.args = []) (h : s.applyRefused = none) :
    applyRequest rq s = (applyEffect s, .ok (u16 (applyEffect s).generation ++ yesNo (!(applyEffect s).landing))) := by
  rw [applyRequest, sized_of_length _ (by rw [hargs]; rfl)]
  simp only [h]

/-- Settles O41: the checks find the lowest failing index; what passes is landed, loaded and evaluated. -/
theorem applyMakesStagingCurrent : Obligations.ApplyMakesStagingCurrent := by
  intro rq n s hready hargs hn
  subst hn
  obtain ⟨t, ht, hans⟩ := exec_request (c := .apply rq) rfl hready
  have hrefuse : ∀ a, s.applyRefused = some a → t.hideFrames = (s.answered 0x14 rq a).hideFrames :=
    fun a ha => hans _ _ (applyRequest_refused hargs ha)
  refine ⟨t, ht, fun hland => hrefuse _ ?_, fun hland => ⟨fun j hj hlow => hrefuse _ ?_, fun hnoconf =>
    ⟨fun c hc hlow => hrefuse _ ?_, fun hnobind => ⟨fun k hk hlow => hrefuse _ ?_, fun hnoice => ?_⟩⟩⟩⟩
  · simp only [State.applyRefused, hland, if_true]
  · simp only [State.applyRefused, hland, Bool.false_eq_true, if_false, conflict_of_lowest hj hlow]
    rfl
  · simp only [State.applyRefused, hland, Bool.false_eq_true, if_false, (conflict_eq_none_iff _).mpr hnoconf,
      badBinding_of_lowest hc hlow]
    rfl
  · simp only [State.applyRefused, hland, Bool.false_eq_true, if_false, (conflict_eq_none_iff _).mpr hnoconf,
      badBinding_none hnobind, badIce_of_lowest hk hlow]
    rfl
  · have hpass : s.applyRefused = none := by
      simp only [State.applyRefused, hland, Bool.false_eq_true, if_false, (conflict_eq_none_iff _).mpr hnoconf,
        badBinding_none hnobind, badIce_none hnoice]
    have hview := hans _ _ (applyRequest_passed hargs hpass)
    have hshell := applyEffect_shell s
    have hday : (applyEffect s).scheduleDay = s.scheduleDay :=
      ((applyEffect_moves s).day_stands id).trans (blocksApplied_day s)
    obtain ⟨hready, -, hqueue, -⟩ := hready
    refine ⟨?_, ?_, ?_, ?_, fun m => ?_, ?_, ?_, ?_, ?_, ?_, fun m x y l hx hl hy => ?_⟩
    · exact (State.tables_of_answered hview).trans (State.tables_of_shell hshell)
    · exact (State.generation_of_answered hview).trans (State.generation_of_shell hshell)
    · rw [State.staged_of_answered hview, State.staged_of_shell hshell]; rfl
    · rw [State.staged_of_answered hview, State.staged_of_shell hshell]; rfl
    · rw [State.staged_of_answered hview, State.staged_of_shell hshell]; simp [loadedState]
    · rw [State.clock_of_answered hview, State.clock_of_shell hshell]; rfl
    · rw [State.node_of_answered hview, State.node_of_shell hshell]; rfl
    · exact (State.scheduleDay_of_answered hview).trans hday
    · rw [State.mgmt_of_hideFrames hview]
      exact (congrArg Mgmt.queue (State.mgmt_of_shell hshell)).trans hqueue
    · rw [State.generation_of_answered hview, State.landing_of_answered hview]
      obtain ⟨r, hr, hra⟩ := State.reply_of_answered hview
      refine ⟨r, hr, hra.trans ?_⟩
      cases (applyEffect s).landing <;> rfl
    · have hload : (loadedItems s)[m] = y := by
        rw [loadedItems, tabulate_get, hy, hx, hl]
        rfl
      rw [State.items_of_answered hview, applyEffect_items, hload]
      by_cases hmark : s.staged.marks[m] = true
      · rw [if_pos (by rw [hmark]; rfl), if_pos (.inl hmark)]
      · have hsame : y = x := hy.trans (if_neg hmark)
        rw [hsame]
        refine if_congr ?_ rfl rfl
        rw [Bool.or_eq_true, Bool.and_eq_true, decide_eq_true_eq]
        exact or_congr_right (and_congr_left' ne_comm)

end Sys2Proof.Machine
end

section
/-! PROOFS. The rules of the channel engine: what each operation of a run writes in its channel and in its instances
(R34 to R41), and the timers of turbines, channels and grid points (R6, R16, R31, R111). -/

namespace Sys2Proof.Machine

/-! ### Operations that reach no channel and no instance -/

section
variable (s : State)

/-- What a piece of work outside channels and instances leaves. -/
theorem Moves.run_stands {W : Footprint} {s t : State} (h : Moves W s t) (hc : ∀ c, ¬ W.channel c) (hi : ∀ i, ¬ W.inst i) :
    t.channels = s.channels ∧ t.insts = s.insts := ⟨h.channels_eq hc, h.insts_eq hi⟩

theorem captureTruncate_run (c : Fin 24) :
    (captureTruncate c s).channels = s.channels ∧ (captureTruncate c s).insts = s.insts :=
  (captureTruncate_moves (W := { Footprint.nothing with slots := True }) c trivial .refl).run_stands (fun _ => id) fun _ => id

theorem landingCheck_run : (landingCheck s).channels = s.channels ∧ (landingCheck s).insts = s.insts :=
  (landingCheck_moves (W := { Footprint.nothing with analysis := True }) trivial .refl).run_stands (fun _ => id) fun _ => id

theorem suspendCheck_run : (suspendCheck s).channels = s.channels ∧ (suspendCheck s).insts = s.insts :=
  (suspendCheck_moves (W := { Footprint.nothing with analysis := True }) trivial .refl).run_stands (fun _ => id) fun _ => id

@[simp] theorem captureTruncate_channels (c : Fin 24) : (captureTruncate c s).channels = s.channels := by
  obtain ⟨h, -⟩ := captureTruncate_run s c; exact h
@[simp] theorem captureTruncate_insts (c : Fin 24) : (captureTruncate c s).insts = s.insts := by
  obtain ⟨-, h⟩ := captureTruncate_run s c; exact h
@[simp] theorem landingCheck_channels : (landingCheck s).channels = s.channels := by
  obtain ⟨h, -⟩ := landingCheck_run s; exact h
@[simp] theorem landingCheck_insts : (landingCheck s).insts = s.insts := by
  obtain ⟨-, h⟩ := landingCheck_run s; exact h
@[simp] theorem suspendCheck_channels : (suspendCheck s).channels = s.channels := by
  obtain ⟨h, -⟩ := suspendCheck_run s; exact h
@[simp] theorem suspendCheck_insts : (suspendCheck s).insts = s.insts := by
  obtain ⟨-, h⟩ := suspendCheck_run s; exact h

end

/-! ### The end of a run (R34), adoption (R38, R39) and where the channel goes -/

/-- A channel whose run has ended. -/
def Channel.runEnded (x : Channel) : Channel :=
  { x with group := [], ring := [], settleProgress := 0, windowProgress := 0, gapped := false }

/-- A channel that has taken a configuration and a generation. -/
def Channel.adopted (new : ChannelConfig) (gen : Nat) (x : Channel) : Channel :=
  { x with
    config := new, gen := gen
    group := if decide (x.config.entry.decimation ≠ new.entry.decimation) then [] else x.group
    ring := if decide (x.config.entry.decimation ≠ new.entry.decimation) then [] else x.ring }

section
variable {s t : State} {c : Fin 24}

theorem endRun_channels (c : Fin 24) (s : State) : (endRun c s).channels = upd s.channels c Channel.runEnded := by
  rw [endRun, captureTruncate_channels]
  rfl

theorem endRun_insts (c : Fin 24) (s : State) (i : Fin 96) :
    (endRun c s).insts[i] = if instChannel i = c then s.insts[i].clearRun else s.insts[i] := by
  rw [endRun, captureTruncate_insts]
  exact tabulate_get _ _ i

theorem adopt_channels (c : Fin 24) (s : State) :
    (adopt c s).channels = upd s.channels c (Channel.adopted (s.tables.configOf c) s.generation) := by
  have hshell : (if decide (s.channels[c].config.entry.decimation ≠ (s.tables.configOf c).entry.decimation) then
      captureTruncate c s else s).generation = s.generation := by
    split
    · exact State.generation_of_shell (captureTruncate_shell c s)
    · rfl
  have hchannels : (if decide (s.channels[c].config.entry.decimation ≠ (s.tables.configOf c).entry.decimation) then
      captureTruncate c s else s).channels = s.channels := by
    split
    · exact captureTruncate_channels s c
    · rfl
  rw [adopt, landingCheck_channels]
  simp only [recomputeWorst, State.modTurbine_channels, State.mapInsts_channels, State.modChannel_channels, hchannels, hshell]
  exact upd_congr rfl

theorem channelPending_eq_false (h : s.channels[c].gen = s.generation) : s.channelPending c = false := by
  simp only [State.channelPending, h, ne_eq, not_true, decide_false]

theorem adoptIfPending_of_current (h : s.channels[c].gen = s.generation) : adoptIfPending c s = s := by
  simp only [adoptIfPending, channelPending_eq_false h, Bool.false_eq_true, if_false]

theorem State.channelBound_congr (ht : t.tables = s.tables) (hc : t.channels[c].config = s.channels[c].config) :
    t.channelBound c = s.channelBound c := by simp only [State.channelBound, ht, hc]

/-- The state of a channel that leaves its run, before the report of R41. -/
def runLeft (c : Fin 24) (next : RunEnd) (marked : Bool) (s : State) : State :=
  if next = .unbind ∨ s.channelBound c = false then s.modChannel c (Channel.rest .unbound)
  else if marked = true ∨ next = .suspend then s.modChannel c (Channel.enterSuspended s.now)
  else if next = .idle then s.modChannel c (Channel.rest .idle)
  else settleCheck c (s.modChannel c fun ch => { ch with state := .settling })

theorem leaveRun_eq (c : Fin 24) (next : RunEnd) (s : State) :
    leaveRun c next s = suspendCheck (runLeft c next s.channels[c].marked (adoptIfPending c (endRun c s))) := rfl

theorem endRun_channel_same (c : Fin 24) (s : State) : (endRun c s).channels[c] = s.channels[c].runEnded := by
  rw [endRun_channels, upd_same]

/-- A bound channel that is not pending leaves its run with the configuration it has. -/
theorem leaveRun_of_current (next : RunEnd) (hbound : s.channelBound c = true) (hgen : s.channels[c].gen = s.generation) :
    leaveRun c next s = suspendCheck (runLeft c next s.channels[c].marked (endRun c s)) ∧
      (endRun c s).channelBound c = true := by
  have hchannel := endRun_channel_same c s
  have hgen' : (endRun c s).channels[c].gen = (endRun c s).generation := by
    rw [hchannel, State.generation_of_shell (endRun_shell c s)]
    exact hgen
  have hconfig : (endRun c s).channels[c].config = s.channels[c].config := by rw [hchannel]; rfl
  refine ⟨by rw [leaveRun_eq, adoptIfPending_of_current hgen'], ?_⟩
  rw [State.channelBound_congr (State.tables_of_shell (endRun_shell c s)) hconfig]
  exact hbound

theorem leaveRun_idle (hbound : s.channelBound c = true) (hgen : s.channels[c].gen = s.generation)
    (hmark : s.channels[c].marked = false) :
    leaveRun c .idle s = suspendCheck ((endRun c s).modChannel c (Channel.rest .idle)) := by
  obtain ⟨heq, hbound'⟩ := leaveRun_of_current .idle hbound hgen
  rw [heq, runLeft, if_neg (by rw [hbound']; decide), if_neg (by rw [hmark]; decide), if_pos rfl]

theorem leaveRun_suspend (hbound : s.channelBound c = true) (hgen : s.channels[c].gen = s.generation) :
    leaveRun c .suspend s = suspendCheck ((endRun c s).modChannel c (Channel.enterSuspended (endRun c s).now)) := by
  obtain ⟨heq, hbound'⟩ := leaveRun_of_current .suspend hbound hgen
  rw [heq, runLeft, if_neg (by rw [hbound']; decide), if_pos (.inr rfl)]

/-- A bound, unmarked channel that is not pending discards its run and settles anew (R30). -/
theorem leaveRun_discard (hbound : s.channelBound c = true) (hgen : s.channels[c].gen = s.generation)
    (hmark : s.channels[c].marked = false) :
    leaveRun c .discard s =
      suspendCheck (settleCheck c ((endRun c s).modChannel c fun x => { x with state := .settling })) := by
  obtain ⟨heq, hbound'⟩ := leaveRun_of_current .discard hbound hgen
  rw [heq, runLeft, if_neg (by rw [hbound']; decide), if_neg (by rw [hmark]; decide), if_neg (by decide)]

/-- What a channel and its instances hold where only the end of the run and a change `f` of the channel have acted. -/
theorem runEnded_changed (c : Fin 24) (f : Channel → Channel) (s : State) :
    (suspendCheck ((endRun c s).modChannel c f)).channels = upd s.channels c (f ∘ Channel.runEnded) ∧
    ∀ i : Fin 96, (suspendCheck ((endRun c s).modChannel c f)).insts[i] =
      if instChannel i = c then s.insts[i].clearRun else s.insts[i] := by
  refine ⟨?_, fun i => ?_⟩
  · rw [suspendCheck_channels, State.modChannel_channels, endRun_channels, upd_upd]
  · rw [suspendCheck_insts, State.modChannel_insts]
    exact endRun_insts c s i

end

/-! ### Expired timers (R6, R16, R31, R111) -/

section
variable {s : State}

theorem due_of_le {expiry : Option Nat} {e now : Nat} (h : expiry = some e) (hle : e ≤ now) : due expiry now = true := by
  rw [h]
  exact decide_eq_true hle

theorem channelIdleExpires_of_run {c : Fin 24} (hdue : due s.channels[c].idleExpiry s.now = true)
    (hrun : s.channels[c].state = .settling ∨ s.channels[c].state = .running) :
    channelIdleExpires c s = leaveRun c .idle s := by
  rcases hrun with h | h <;> simp only [channelIdleExpires, if_pos hdue, h]

theorem channelIdleExpires_of_suspended {c : Fin 24} (hdue : due s.channels[c].idleExpiry s.now = true)
    (h : s.channels[c].state = .suspended) :
    channelIdleExpires c s = s.modChannel c fun x => { x with idleExpiry := none, streamIdle := true } := by
  simp only [channelIdleExpires, if_pos hdue, h]

theorem Footprint.runs_of (c : Fin 24) : Footprint.Runs
    { Footprint.nothing with channel := (· = c), inst := fun i => instChannel i = c, slots := True, analysis := True } c :=
  ⟨rfl, fun _ h => h, trivial, trivial⟩

theorem gridIdleExpires_of_due {p : Fin 2} (hrun : s.points[p].intake = .assembling)
    (hdue : due s.points[p].idleExpiry s.now = true) : gridIdleExpires p s =
      suspendCheck (s.modPoint p (GridPoint.rest (if s.points[p].marked then .suspended else .idle))) :=
  if_pos ⟨hrun, hdue⟩

end

/-- Settles O33: the run left for IDLE, and the point at rest. -/
theorem idleTimersEndRuns : Obligations.IdleTimersEndRuns := by
  refine ⟨fun c expiry s hlow hexpiry hdue => ?_, fun p expiry s hlow hrun hexpiry hdue => ?_⟩
  · have hnow : due s.channels[c].idleExpiry s.now = true := due_of_le hexpiry hdue
    have hmoves := channelIdleExpires_moves c (Footprint.runs_of c) (s := s) .refl
    refine ⟨_, live_next _ hlow, fun d hd => ?_, fun hsusp => ?_, fun hrun hmark hbound hgen => ?_⟩
    · rw [arbitrate_channels]
      exact hmoves.channel_stands hd
    · rw [arbitrate_channels, arbitrate_insts, channelIdleExpires_of_suspended hnow hsusp]
      exact ⟨upd_same s.channels c _, rfl⟩
    · obtain ⟨hchannels, hinsts⟩ := runEnded_changed c (Channel.rest .idle) s
      rw [arbitrate_channels, arbitrate_insts, channelIdleExpires_of_run hnow hrun, leaveRun_idle hbound hgen hmark,
        hchannels, upd_same]
      refine ⟨rfl, rfl, rfl, rfl, rfl, rfl, rfl, rfl, fun i => ?_⟩
      rw [hinsts]
      split
      · exact ⟨rfl, rfl, rfl, rfl, rfl⟩
      · rfl
  · have hdo : gridIdleExpires p s = _ := gridIdleExpires_of_due hrun (due_of_le hexpiry hdue)
    have hpoint : (suspendCheck (s.modPoint p (GridPoint.rest (if s.points[p].marked then .suspended else .idle)))).points =
        upd s.points p (GridPoint.rest (if s.points[p].marked then .suspended else .idle)) := suspendCheck_points _
    have hmoves := gridIdleExpires_moves (W := { Footprint.nothing with point := (· = p), analysis := True }) p rfl trivial
      (s := s) .refl
    refine ⟨_, live_next _ hlow, ?_⟩
    rw [arbitrate_points, arbitrate_counts, arbitrate_channels]
    refine ⟨?_, ?_, ?_, ?_, ?_, ?_, ?_, ?_, ?_, ?_, fun q hq => hmoves.point_stands hq, hmoves.counts_stand id,
      hmoves.channels_eq fun _ => id⟩
    all_goals
      rw [hdo, hpoint, upd_same]
      rfl

/-! ### Turbine timers -/

section
variable {s : State} {k : Fin 8}

theorem freshnessExpires_of_due (hfresh : s.turbines[k].freshness = .fresh) (hdue : s.turbines[k].freshExpiry ≤ s.now) :
    freshnessExpires k s = eachWindow k WindowContext.stale (s.modTurbine k fun x => { x with freshness := .stale }) :=
  if_pos ⟨hfresh, hdue⟩

theorem eachWindow_insts (k : Fin 8) (f : WindowContext → WindowContext) (s : State) (i : Fin 96) :
    (eachWindow k f s).insts[i] =
      if s.turbineOf (instChannel i) = k then { s.insts[i] with window := s.insts[i].window.map f } else s.insts[i] :=
  tabulate_get _ _ i

theorem resendExpires_of_holding {e : Nat} (h : s.turbines[k].advisory = .holding e) : resendExpires k s =
    if e ≤ s.now then s.modTurbine k fun x => { x with advisory := .pending x.curtail e } else s := by
  simp only [resendExpires, h]

end

/-- Settles O32: STALE written with the windows, and a HOLDING turbine PENDING again. -/
theorem turbineTimersExpire : Obligations.TurbineTimersExpire := by
  intro k s hlow
  refine ⟨fun hfresh hdue => ?_, fun expiry hhold => ?_⟩
  · have hdo := freshnessExpires_of_due hfresh hdue
    obtain ⟨u, hu⟩ : ∃ u, u = freshnessExpires k s := ⟨_, rfl⟩
    have hturbines : u.turbines = upd s.turbines k fun x => { x with freshness := .stale } := by rw [hu, hdo]; rfl
    have hview : ∀ j : Fin 8, (arbitrate u).turbines[j] =
        { u.turbines[j] with advisory := (arbitrate u).turbines[j].advisory } :=
      turbine_of_hideFrames (arbitrate_hideFrames u)
    refine ⟨arbitrate u, (live_next _ hlow).trans (by rw [hu]), ?_, ?_, ?_, ?_, ?_, fun i => ?_, ?_, fun j hj => ?_⟩
    · rw [hview, hturbines, upd_same]
    · rw [hview, hturbines, upd_same]
    · rw [hview, hturbines, upd_same]
    · rw [hview, hturbines, upd_same]
    · rw [hview, hturbines, upd_same]
    · rw [arbitrate_insts, hu, hdo, eachWindow_insts]
      rfl
    · have hturbine : ∀ j : Fin 8, { (arbitrate u).turbines[j] with advisory := .quiet } =
          ({ u.turbines[j] with advisory := .quiet } : Turbine) := hideFrames_turbine (arbitrate_hideFrames u)
      rw [arbitrate_hideFrames, arbitrate_insts]
      simp only [State.hideFrames, hturbine]
      rw [hu, hdo]
      rfl
    · have hj' : u.turbines[j] = s.turbines[j] := by rw [hturbines, upd_other _ _ _ _ hj]
      have hjview := hview j
      rw [hj'] at hjview
      exact hjview
  · have hdo := resendExpires_of_holding hhold
    refine ⟨_, live_next _ hlow, ?_, fun hdue => ?_, fun hbefore => ?_⟩
    · rw [arbitrate_hideFrames, hdo]
      split
      · exact State.modTurbine_hideFrames s k _ fun _ => rfl
      · rfl
    · rw [hdo, if_pos (show expiry ≤ s.now from hdue)]
      exact arbitrate_due (congrArg Turbine.advisory (upd_same s.turbines k _))
    · rw [hdo, if_neg (show ¬ expiry ≤ s.now from Nat.not_le.mpr hbefore),
        arbitrate_not_pending (by rw [hhold]; rfl), hhold]

end Sys2Proof.Machine
end

section
/-! PROOFS. Suspend and Resume (R41, R42, R112, R204): loops that visit each channel once, what the visit to one channel
leaves at the others, and the reports that end a suspension. -/

namespace Sys2Proof.Machine

/-! ### Loops seen from one index -/

/-- A loop over all indexes, seen from index `j`: what its step at `j` starts from agrees with the loop's start, and what
it leaves agrees with the loop's end, as far as the steps at the other indexes keep agreement. -/
theorem forAll_around {n : Nat} {f : Fin n → State → State} (R : State → State → Prop) (hrefl : ∀ s, R s s)
    (htrans : ∀ {s t u}, R s t → R t u → R s u) (j : Fin n) (hother : ∀ i s, i ≠ j → R s (f i s)) (s : State) :
    ∃ v, R s v ∧ R (f j v) (forAll n f s) := by
  obtain ⟨l, r, hsplit⟩ := List.append_of_mem (List.mem_finRange j)
  have hnodup := List.nodup_finRange n
  rw [hsplit, List.nodup_append] at hnodup
  obtain ⟨-, hr, hdisj⟩ := hnodup
  obtain ⟨hjr, -⟩ := List.nodup_cons.mp hr
  have hstay : ∀ l : List (Fin n), j ∉ l → ∀ u, R u (l.foldl (fun s i => f i s) u) := by
    intro l hl
    induction l with
    | nil => exact hrefl
    | cons i l ih =>
      intro u
      obtain ⟨hi, hl⟩ := List.ne_and_not_mem_of_not_mem_cons hl
      exact htrans (hother i u hi.symm) (ih hl _)
  have hjl : j ∉ l := fun h => hdisj j h j List.mem_cons_self rfl
  refine ⟨l.foldl (fun s i => f i s) s, hstay l hjl s, ?_⟩
  rw [forAll, hsplit, List.foldl_append, List.foldl_cons]
  exact hstay r hjr _

/-! ### Agreement at one channel and at one point -/

/-- Two states agree at channel `c`: the channel, its instances and the shell. -/
def SameChannel (c : Fin 24) (s t : State) : Prop :=
  t.channels[c] = s.channels[c] ∧ (∀ i, instChannel i = c → t.insts[i] = s.insts[i]) ∧ t.shell = s.shell

/-- Two states agree at point `p` and in the shell. -/
def SamePoint (p : Fin 2) (s t : State) : Prop := t.points[p] = s.points[p] ∧ t.shell = s.shell

section
variable {s t u : State}

theorem SameChannel.refl (c : Fin 24) (s : State) : SameChannel c s s := ⟨rfl, fun _ _ => rfl, rfl⟩

theorem SameChannel.trans {c : Fin 24} (h : SameChannel c s t) (h' : SameChannel c t u) : SameChannel c s u := by
  obtain ⟨hc, hi, hs⟩ := h
  obtain ⟨hc', hi', hs'⟩ := h'
  exact ⟨hc'.trans hc, fun i h => (hi' i h).trans (hi i h), hs'.trans hs⟩

theorem Moves.sameChannel {W : Footprint} {c : Fin 24} (h : Moves W s t) (hc : ¬ W.channel c)
    (hi : ∀ i, instChannel i = c → ¬ W.inst i) : SameChannel c s t :=
  ⟨h.channel_stands hc, fun i hic => h.inst_stands (hi i hic), h.shell⟩

theorem SamePoint.refl (p : Fin 2) (s : State) : SamePoint p s s := ⟨rfl, rfl⟩

theorem SamePoint.trans {p : Fin 2} (h : SamePoint p s t) (h' : SamePoint p t u) : SamePoint p s u :=
  ⟨h'.1.trans h.1, h'.2.trans h.2⟩

theorem Moves.samePoint {W : Footprint} {p : Fin 2} (h : Moves W s t) (hp : ¬ W.point p) : SamePoint p s t :=
  ⟨h.point_stands hp, h.shell⟩

/-- The footprint of the work on one channel. -/
def Footprint.atChannel (c : Fin 24) : Footprint :=
  { Footprint.nothing with channel := (· = c), inst := fun i => instChannel i = c, slots := True, analysis := True }

theorem Footprint.atChannel_runs (c : Fin 24) : (Footprint.atChannel c).Runs c := Footprint.runs_of c

/-- A loop over the channels, seen from channel `c`. -/
theorem forAll_channel {f : Fin 24 → State → State} (hf : ∀ i s, Moves (.atChannel i) s (f i s)) (c : Fin 24) (s : State) :
    ∃ v, SameChannel c s v ∧ SameChannel c (f c v) (forAll 24 f s) :=
  forAll_around (SameChannel c) (.refl c) .trans c
    (fun i s hi => (hf i s).sameChannel (Ne.symm hi) fun _ hj h => hi (h.symm.trans hj)) s

theorem forAll_channels_points {f : Fin 24 → State → State} (hf : ∀ i s, Moves (.atChannel i) s (f i s)) (s : State) :
    (forAll 24 f s).points = s.points :=
  forAll_keeps (fun u => u.points = s.points) (fun i u h => ((hf i u).points_eq fun _ => id).trans h) s rfl

/-- A loop over the points, seen from point `p`. -/
theorem forAll_point {f : Fin 2 → State → State}
    (hf : ∀ q s, Moves { Footprint.nothing with point := (· = q), analysis := True } s (f q s)) (p : Fin 2) (s : State) :
    ∃ v, SamePoint p s v ∧ SamePoint p (f p v) (forAll 2 f s) :=
  forAll_around (SamePoint p) (.refl p) .trans p (fun q s hq => (hf q s).samePoint (Ne.symm hq)) s

theorem forAll_points_channels {f : Fin 2 → State → State}
    (hf : ∀ q s, Moves { Footprint.nothing with point := (· = q), analysis := True } s (f q s)) (s : State) :
    (forAll 2 f s).channels = s.channels ∧ (forAll 2 f s).insts = s.insts :=
  forAll_keeps (fun u => u.channels = s.channels ∧ u.insts = s.insts)
    (fun q u ⟨hc, hi⟩ => ⟨((hf q u).channels_eq fun _ => id).trans hc, ((hf q u).insts_eq fun _ => id).trans hi⟩) s ⟨rfl, rfl⟩

end

/-! ### Suspend at a channel and at a point (R41, R112) -/

section
variable {s : State} {c : Fin 24} {p : Fin 2}

theorem suspendChannel_at (c : Fin 24) (s : State) : Moves (.atChannel c) s (suspendChannel c s) :=
  suspendChannel_moves c (Footprint.atChannel_runs c) .refl

theorem resumeChannel_at (c : Fin 24) (s : State) : Moves (.atChannel c) s (resumeChannel c s) :=
  resumeChannel_moves c (Footprint.atChannel_runs c) .refl

theorem suspendPoint_at (p : Fin 2) (s : State) :
    Moves { Footprint.nothing with point := (· = p), analysis := True } s (suspendPoint p s) :=
  suspendPoint_moves p rfl .refl

theorem resumePoint_at (p : Fin 2) (s : State) :
    Moves { Footprint.nothing with point := (· = p), analysis := True } s (resumePoint p s) :=
  resumePoint_moves p rfl .refl

theorem suspendChannel_of_running (h : s.channels[c].state = .running) :
    suspendChannel c s = s.modChannel c fun x => { x with marked := true } := by simp only [suspendChannel, h]

theorem suspendChannel_of_settling (h : s.channels[c].state = .settling) : suspendChannel c s = leaveRun c .suspend s := by
  simp only [suspendChannel, h]

theorem suspendChannel_of_idle (h : s.channels[c].state = .idle) :
    suspendChannel c s = s.modChannel c (Channel.enterSuspended s.now) := by simp only [suspendChannel, h]

theorem suspendChannel_of_resting (h : s.channels[c].state = .unbound ∨ s.channels[c].state = .suspended) :
    suspendChannel c s = s := by rcases h with h | h <;> simp only [suspendChannel, h]

theorem suspendPoint_of_assembling (h : s.points[p].intake = .assembling) :
    suspendPoint p s = s.modPoint p fun x => { x with marked := true } := by simp only [suspendPoint, h]

theorem suspendPoint_of_idle (h : s.points[p].intake = .idle) :
    suspendPoint p s = s.modPoint p (GridPoint.rest .suspended) := by simp only [suspendPoint, h]

theorem suspendPoint_of_resting (h : s.points[p].intake = .unbound ∨ s.points[p].intake = .suspended) :
    suspendPoint p s = s := by rcases h with h | h <;> simp only [suspendPoint, h]

theorem modChannel_same (s : State) (c : Fin 24) (f : Channel → Channel) :
    (s.modChannel c f).channels[c] = f s.channels[c] := upd_same _ _ _

theorem modPoint_same (s : State) (p : Fin 2) (f : GridPoint → GridPoint) : (s.modPoint p f).points[p] = f s.points[p] :=
  upd_same _ _ _

/-- A SETTLING channel that answers a Suspend is in no run afterwards, whatever it is bound to. -/
theorem leaveRun_suspend_state (c : Fin 24) (s : State) :
    (leaveRun c .suspend s).channels[c].state = .unbound ∨ (leaveRun c .suspend s).channels[c].state = .suspended := by
  rw [leaveRun_eq, suspendCheck_channels, runLeft]
  split
  · exact .inl (congrArg Channel.state (modChannel_same _ _ _))
  · rw [if_pos (.inr rfl)]
    exact .inr (congrArg Channel.state (modChannel_same _ _ _))

theorem suspendChannel_state (c : Fin 24) (s : State) :
    if s.channels[c].state = .running then (suspendChannel c s).channels[c].state = .running
    else (suspendChannel c s).channels[c].state ≠ .running ∧ (suspendChannel c s).channels[c].state ≠ .settling := by
  cases h : s.channels[c].state with
  | running => rw [if_pos rfl, suspendChannel_of_running h, modChannel_same]; exact h
  | settling =>
    rw [if_neg (by decide), suspendChannel_of_settling h]
    rcases leaveRun_suspend_state c s with h | h <;> rw [h] <;> decide
  | idle =>
    rw [if_neg (by decide), suspendChannel_of_idle h, modChannel_same]
    exact ⟨nofun, nofun⟩
  | unbound => rw [if_neg (by decide), suspendChannel_of_resting (.inl h), h]; exact ⟨nofun, nofun⟩
  | suspended => rw [if_neg (by decide), suspendChannel_of_resting (.inr h), h]; exact ⟨nofun, nofun⟩

theorem suspendPoint_intake (p : Fin 2) (s : State) :
    (suspendPoint p s).points[p].intake = .assembling ↔ s.points[p].intake = .assembling := by
  cases h : s.points[p].intake with
  | assembling => rw [suspendPoint_of_assembling h, modPoint_same]; exact iff_of_true h rfl
  | idle => rw [suspendPoint_of_idle h, modPoint_same]; exact iff_of_false nofun nofun
  | unbound => rw [suspendPoint_of_resting (.inl h), h]
  | suspended => rw [suspendPoint_of_resting (.inr h), h]

end

/-! ### The reports (R41, R112, R204) -/

/-- The analysis state and the reports of the second state are those of the first. -/
def SameReports (s t : State) : Prop :=
  t.analysis = s.analysis ∧ t.channelReport = s.channelReport ∧ t.gridReport = s.gridReport

section
variable {s t u : State} {c : Fin 24}

theorem Moves.sameReports {W : Footprint} (h : Moves W s t) (ha : ¬ W.analysis) : SameReports s t := by
  obtain ⟨-, hst, hc, hg⟩ := h.analysis_stands ha
  exact ⟨hst, hc, hg⟩

theorem SameReports.trans (h : SameReports s t) (h' : SameReports t u) : SameReports s u := by
  obtain ⟨ha, hc, hg⟩ := h
  obtain ⟨ha', hc', hg'⟩ := h'
  exact ⟨ha'.trans ha, hc'.trans hc, hg'.trans hg⟩

theorem landingCheck_reports (s : State) : SameReports s (landingCheck s) := by
  unfold landingCheck
  split
  · exact (Moves.offer (W := .nothing) _ .refl).sameReports id
  · exact ⟨rfl, rfl, rfl⟩

theorem recomputeWorst_reports (k : Fin 8) (s : State) : SameReports s (recomputeWorst k s) := ⟨rfl, rfl, rfl⟩
theorem modChannel_reports (c : Fin 24) (f : Channel → Channel) (s : State) : SameReports s (s.modChannel c f) :=
  ⟨rfl, rfl, rfl⟩
theorem mapInsts_reports (f : Fin 96 → Inst → Inst) (s : State) : SameReports s (s.mapInsts f) := ⟨rfl, rfl, rfl⟩

theorem captureTruncate_reports (c : Fin 24) (s : State) : SameReports s (captureTruncate c s) :=
  (captureTruncate_moves (W := { Footprint.nothing with slots := True }) c trivial .refl).sameReports id

theorem adopt_reports (c : Fin 24) (s : State) : SameReports s (adopt c s) := by
  simp only [adopt]
  refine .trans ?_ (landingCheck_reports _)
  refine .trans ?_ (recomputeWorst_reports _ _)
  refine .trans ?_ (recomputeWorst_reports _ _)
  refine .trans ?_ (mapInsts_reports _ _)
  refine .trans ?_ (modChannel_reports _ _ _)
  split
  · exact captureTruncate_reports c s
  · exact ⟨rfl, rfl, rfl⟩

theorem adoptIfPending_reports (c : Fin 24) (s : State) : SameReports s (adoptIfPending c s) := by
  unfold adoptIfPending
  split
  · exact adopt_reports c s
  · exact ⟨rfl, rfl, rfl⟩

theorem endRun_reports (c : Fin 24) (s : State) : SameReports s (endRun c s) :=
  .trans (.trans (modChannel_reports c _ s) (mapInsts_reports _ _)) (captureTruncate_reports c _)

theorem startWindow_reports (c : Fin 24) (void : Bool) (s : State) : SameReports s (startWindow c void s) := ⟨rfl, rfl, rfl⟩

theorem settleCheck_reports (c : Fin 24) (s : State) : SameReports s (settleCheck c s) := by
  unfold settleCheck
  split
  · exact startWindow_reports c false s
  · exact ⟨rfl, rfl, rfl⟩

theorem runLeft_reports (c : Fin 24) (next : RunEnd) (marked : Bool) (s : State) : SameReports s (runLeft c next marked s) := by
  unfold runLeft
  split
  · exact modChannel_reports _ _ _
  · split
    · exact modChannel_reports _ _ _
    · split
      · exact modChannel_reports _ _ _
      · exact .trans (modChannel_reports _ _ _) (settleCheck_reports _ _)

theorem startRun_reports (c : Fin 24) (s : State) : SameReports s (startRun c s) :=
  .trans (modChannel_reports _ _ _) (settleCheck_reports _ _)

theorem resumeChannel_reports (c : Fin 24) (s : State) : SameReports s (resumeChannel c s) := by
  unfold resumeChannel
  split
  · split
    · exact modChannel_reports _ _ _
    · exact startRun_reports _ _
  · exact modChannel_reports _ _ _
  all_goals exact ⟨rfl, rfl, rfl⟩

theorem resumePoint_reports (p : Fin 2) (s : State) : SameReports s (resumePoint p s) := by
  unfold resumePoint
  split <;> exact ⟨rfl, rfl, rfl⟩

theorem suspendPoint_reports (p : Fin 2) (s : State) : SameReports s (suspendPoint p s) := by
  unfold suspendPoint
  split <;> exact ⟨rfl, rfl, rfl⟩

/-- A suspension under way from `s`: no report is made while one of the runs of `s` goes on. -/
structure Suspending (s u : State) : Prop where
  state : u.analysis = .suspending ∨ u.analysis = .suspended
  channels : ∀ c : Fin 24, s.channels[c].state = .running → u.channels[c].state = .running
  points : ∀ p : Fin 2, s.points[p].intake = .assembling → u.points[p].intake = .assembling
  channelReport : u.channelReport = true → ∀ c : Fin 24, s.channels[c].state ≠ .running
  gridReport : u.gridReport = true → ∀ p : Fin 2, s.points[p].intake ≠ .assembling
  done : u.analysis = .suspended →
    (∀ c : Fin 24, s.channels[c].state ≠ .running) ∧ ∀ p : Fin 2, s.points[p].intake ≠ .assembling

theorem channelsQuiet_iff (s : State) : s.channelsQuiet = true ↔
    ∀ c : Fin 24, s.channels[c].state ≠ .running ∧ s.channels[c].state ≠ .settling := by
  rw [State.channelsQuiet, all_toList_iff]
  exact forall_congr' fun c => by rw [Bool.and_eq_true, decide_eq_true_eq, decide_eq_true_eq]

theorem pointsQuiet_iff (s : State) : s.pointsQuiet = true ↔ ∀ p : Fin 2, s.points[p].intake ≠ .assembling := by
  rw [State.pointsQuiet, all_toList_iff]
  exact forall_congr' fun p => by rw [decide_eq_true_eq]

/-- A step that keeps the runs of `s` and the reports keeps the suspension. -/
theorem Suspending.keep (h : Suspending s u) {v : State} (hr : SameReports u v)
    (hc : ∀ c : Fin 24, s.channels[c].state = .running → v.channels[c].state = .running)
    (hp : ∀ p : Fin 2, s.points[p].intake = .assembling → v.points[p].intake = .assembling) : Suspending s v := by
  obtain ⟨ha, hch, hgr⟩ := hr
  exact ⟨by rw [ha]; exact h.state, hc, hp, by rw [hch]; exact h.channelReport, by rw [hgr]; exact h.gridReport,
    by rw [ha]; exact h.done⟩

theorem suspendedNotice_eq (s : State) : ∃ q e, suspendedNotice s = { s with notices := q, errors := e } := offer_eq _ _

/-- What the look at the reports leaves of them. -/
theorem suspendCheck_reports (h : s.analysis = .suspending) :
    (suspendCheck s).channelReport = (s.channelReport || s.channelsQuiet) ∧
    (suspendCheck s).gridReport = (s.gridReport || s.pointsQuiet) ∧
    (suspendCheck s).analysis =
      if (s.channelReport || s.channelsQuiet) && (s.gridReport || s.pointsQuiet) then .suspended else .suspending := by
  simp only [suspendCheck, if_pos h]
  split
  · obtain ⟨q, e, heq⟩ := suspendedNotice_eq { s with
      analysis := .suspended, channelReport := s.channelReport || s.channelsQuiet
      gridReport := s.gridReport || s.pointsQuiet }
    rw [heq]
    exact ⟨rfl, rfl, rfl⟩
  · exact ⟨rfl, rfl, h⟩

theorem suspendCheck_of_other (h : s.analysis ≠ .suspending) : suspendCheck s = s := if_neg h

theorem Suspending.check (h : Suspending s u) : Suspending s (suspendCheck u) := by
  by_cases hst : u.analysis = .suspending
  · obtain ⟨hch, hgr, ha⟩ := suspendCheck_reports hst
    have hquiet : (u.channelReport || u.channelsQuiet) = true → ∀ c : Fin 24, s.channels[c].state ≠ .running := by
      intro hq c hrun
      rcases Bool.or_eq_true _ _ ▸ hq with hq | hq
      · exact h.channelReport hq c hrun
      · exact ((channelsQuiet_iff u).mp hq c).1 (h.channels c hrun)
    have hcalm : (u.gridReport || u.pointsQuiet) = true → ∀ p : Fin 2, s.points[p].intake ≠ .assembling := by
      intro hq p hrun
      rcases Bool.or_eq_true _ _ ▸ hq with hq | hq
      · exact h.gridReport hq p hrun
      · exact (pointsQuiet_iff u).mp hq p (h.points p hrun)
    refine ⟨?_, fun c hc => ?_, fun p hp => ?_, by rw [hch]; exact hquiet, by rw [hgr]; exact hcalm, fun hdone => ?_⟩
    · rw [ha]; split <;> simp
    · rw [suspendCheck_channels]; exact h.channels c hc
    · rw [suspendCheck_points]; exact h.points p hp
    · rw [ha] at hdone
      split at hdone
      next hboth =>
        obtain ⟨hq, hg⟩ := Bool.and_eq_true _ _ ▸ hboth
        exact ⟨hquiet hq, hcalm hg⟩
      next => cases hdone
  · rw [suspendCheck_of_other hst]; exact h

theorem leaveRun_reports (c : Fin 24) (next : RunEnd) (s : State) :
    SameReports s (runLeft c next s.channels[c].marked (adoptIfPending c (endRun c s))) :=
  .trans (.trans (endRun_reports c s) (adoptIfPending_reports c _)) (runLeft_reports c next _ _)

/-- A channel's answer to the Suspend keeps the suspension. -/
theorem Suspending.channel (h : Suspending s u) (c : Fin 24) : Suspending s (suspendChannel c u) := by
  have hchannels : ∀ d : Fin 24, s.channels[d].state = .running → (suspendChannel c u).channels[d].state = .running := by
    intro d hd
    by_cases hdc : d = c
    · subst hdc
      have := suspendChannel_state d u
      rwa [if_pos (h.channels d hd)] at this
    · rw [(suspendChannel_at c u).channel_stands hdc]
      exact h.channels d hd
  have hpoints : ∀ p : Fin 2, s.points[p].intake = .assembling → (suspendChannel c u).points[p].intake = .assembling := by
    intro p hp
    rw [(suspendChannel_at c u).point_stands id]
    exact h.points p hp
  cases hst : u.channels[c].state with
  | running =>
    rw [suspendChannel_of_running hst] at hchannels hpoints ⊢
    exact h.keep (modChannel_reports _ _ _) hchannels hpoints
  | settling =>
    rw [suspendChannel_of_settling hst, leaveRun_eq] at hchannels hpoints ⊢
    rw [suspendCheck_channels] at hchannels
    rw [suspendCheck_points] at hpoints
    exact (h.keep (leaveRun_reports c .suspend u) hchannels hpoints).check
  | idle =>
    rw [suspendChannel_of_idle hst] at hchannels hpoints ⊢
    exact h.keep (modChannel_reports _ _ _) hchannels hpoints
  | unbound => rwa [suspendChannel_of_resting (.inl hst)]
  | suspended => rwa [suspendChannel_of_resting (.inr hst)]

theorem Suspending.point (h : Suspending s u) (p : Fin 2) : Suspending s (suspendPoint p u) := by
  refine h.keep (suspendPoint_reports p u) (fun c hc => ?_) fun q hq => ?_
  · rw [(suspendPoint_at p u).channel_stands id]
    exact h.channels c hc
  · by_cases hqp : q = p
    · subst hqp
      exact (suspendPoint_intake q u).mpr (h.points q hq)
    · rw [(suspendPoint_at p u).point_stands hqp]
      exact h.points q hq

/-- The channels and points after their answers to a Suspend, before the last look at the reports. -/
def suspendVisits (s : State) : State :=
  forAll 2 suspendPoint (forAll 24 suspendChannel { s with analysis := .suspending })

theorem suspendAnalysis_of_active (h : s.analysis = .active) : suspendAnalysis s = suspendCheck (suspendVisits s) := if_pos h

theorem suspendVisits_suspending (hch : s.channelReport = false) (hgr : s.gridReport = false) :
    Suspending s (suspendVisits s) := by
  have hstart : Suspending s { s with analysis := .suspending } :=
    ⟨.inl rfl, fun _ => id, fun _ => id, fun h => absurd (hch.symm.trans h) nofun, fun h => absurd (hgr.symm.trans h) nofun,
      nofun⟩
  exact forAll_keeps (Suspending s) (fun p _ h => h.point p) _
    (forAll_keeps (Suspending s) (fun c _ h => h.channel c) _ hstart)

theorem suspendVisits_channel (s : State) (c : Fin 24) : ∃ v, SameChannel c { s with analysis := .suspending } v ∧
    (suspendVisits s).channels[c] = (suspendChannel c v).channels[c] ∧
    ∀ i, instChannel i = c → (suspendVisits s).insts[i] = (suspendChannel c v).insts[i] := by
  obtain ⟨v, hv, hc, hi, -⟩ := forAll_channel suspendChannel_at c { s with analysis := .suspending }
  obtain ⟨hchannels, hinsts⟩ := forAll_points_channels suspendPoint_at (forAll 24 suspendChannel { s with analysis := .suspending })
  refine ⟨v, hv, ?_, fun i hic => ?_⟩
  · rw [suspendVisits, hchannels, hc]
  · rw [suspendVisits, hinsts, hi i hic]

theorem suspendVisits_point (s : State) (p : Fin 2) : ∃ v, v.points[p] = s.points[p] ∧
    (suspendVisits s).points[p] = (suspendPoint p v).points[p] := by
  obtain ⟨v, ⟨hv, -⟩, hp, -⟩ := forAll_point suspendPoint_at p (forAll 24 suspendChannel { s with analysis := .suspending })
  exact ⟨v, by rw [hv, forAll_channels_points suspendChannel_at], hp⟩

/-- The analysis state after a Suspend: SUSPENDED when nothing runs on. -/
theorem suspendAnalysis_state (hactive : s.analysis = .active) (hch : s.channelReport = false) (hgr : s.gridReport = false) :
    (suspendAnalysis s).analysis =
      if (∀ c : Fin 24, s.channels[c].state ≠ .running) ∧ ∀ p : Fin 2, s.points[p].intake ≠ .assembling
      then .suspended else .suspending := by
  have hvisits := suspendVisits_suspending hch hgr
  rw [suspendAnalysis_of_active hactive]
  split
  next hquiet =>
    obtain ⟨hnorun, hnopoint⟩ := hquiet
    have hchannels : (suspendVisits s).channelsQuiet = true := (channelsQuiet_iff _).mpr fun c => by
      obtain ⟨v, ⟨hv, -, -⟩, hc, -⟩ := suspendVisits_channel s c
      have hstate := suspendChannel_state c v
      rw [if_neg (by rw [hv]; exact hnorun c)] at hstate
      rw [hc]
      exact hstate
    have hpoints : (suspendVisits s).pointsQuiet = true := (pointsQuiet_iff _).mpr fun p => by
      obtain ⟨v, hv, hp⟩ := suspendVisits_point s p
      rw [hp, ne_eq, suspendPoint_intake, hv]
      exact hnopoint p
    rcases hvisits.state with hst | hst
    · obtain ⟨-, -, ha⟩ := suspendCheck_reports hst
      rw [ha, hchannels, hpoints, Bool.or_true, Bool.or_true]
      rfl
    · rw [suspendCheck_of_other (by rw [hst]; decide)]
      exact hst
  next hbusy =>
    rcases hvisits.check.state with hst | hst
    · exact hst
    · exact absurd (hvisits.check.done hst) hbusy

/-! ### Resume -/

theorem resumeAnalysis_of_active (h : s.analysis = .active) : resumeAnalysis s = s := if_pos h

/-- The channels and points after their answers to a Resume. -/
def resumeVisits (s : State) : State :=
  forAll 2 resumePoint (forAll 24 resumeChannel { s with analysis := .active, channelReport := false, gridReport := false })

theorem resumeAnalysis_of_other (h : s.analysis ≠ .active) : resumeAnalysis s = resumeVisits s := if_neg h

theorem resumeVisits_reports (s : State) :
    SameReports { s with analysis := .active, channelReport := false, gridReport := false } (resumeVisits s) :=
  forAll_keeps (SameReports _) (fun p _ h => h.trans (resumePoint_reports p _)) _
    (forAll_keeps (SameReports _) (fun c _ h => h.trans (resumeChannel_reports c _)) _ ⟨rfl, rfl, rfl⟩)

theorem resumeVisits_channel (s : State) (c : Fin 24) : ∃ v, v.channels[c] = s.channels[c] ∧
    (resumeVisits s).channels[c] = (resumeChannel c v).channels[c] := by
  obtain ⟨v, ⟨hv, -, -⟩, hc, -, -⟩ := forAll_channel resumeChannel_at c
    { s with analysis := .active, channelReport := false, gridReport := false }
  obtain ⟨hchannels, -⟩ := forAll_points_channels resumePoint_at
    (forAll 24 resumeChannel { s with analysis := .active, channelReport := false, gridReport := false })
  exact ⟨v, hv, by rw [resumeVisits, hchannels, hc]⟩

theorem resumeVisits_point (s : State) (p : Fin 2) : ∃ v, v.points[p] = s.points[p] ∧
    (resumeVisits s).points[p] = (resumePoint p v).points[p] := by
  obtain ⟨v, ⟨hv, -⟩, hp, -⟩ := forAll_point resumePoint_at p
    (forAll 24 resumeChannel { s with analysis := .active, channelReport := false, gridReport := false })
  exact ⟨v, by rw [hv, forAll_channels_points resumeChannel_at], hp⟩

theorem resumeChannel_of_running (h : s.channels[c].state = .running) :
    resumeChannel c s = s.modChannel c fun x => { x with marked := false } := by simp only [resumeChannel, h]

theorem resumeChannel_of_idle_stream (h : s.channels[c].state = .suspended) (hi : s.channels[c].streamIdle = true) :
    resumeChannel c s = s.modChannel c (Channel.rest .idle) := by simp only [resumeChannel, h, hi, if_true]

theorem resumeChannel_of_stream (h : s.channels[c].state = .suspended) (hi : s.channels[c].streamIdle = false) :
    resumeChannel c s = startRun c s := by simp only [resumeChannel, h, hi, Bool.false_eq_true, if_false]

theorem settleCheck_state (h : s.channels[c].state = .settling) :
    (settleCheck c s).channels[c].state = .settling ∨ (settleCheck c s).channels[c].state = .running := by
  unfold settleCheck
  split
  · exact .inr (congrArg Channel.state (modChannel_same s c _))
  · exact .inl h

theorem resumePoint_of_assembling {p : Fin 2} (h : s.points[p].intake = .assembling) :
    resumePoint p s = s.modPoint p fun x => { x with marked := false } := by simp only [resumePoint, h]

theorem resumePoint_of_suspended {p : Fin 2} (h : s.points[p].intake = .suspended) :
    resumePoint p s = s.modPoint p (GridPoint.rest .idle) := by simp only [resumePoint, h]

end

/-- Settles O43: each channel and each point answers once; the reports are made by the last look at them at the latest. -/
theorem suspendAndResumeMoveAnalysis : Obligations.SuspendAndResumeMoveAnalysis := by
  intro rq s hready hargs
  obtain ⟨t, ht, htans⟩ := exec_request (c := .suspend rq) rfl hready
  obtain ⟨u, hu, huans⟩ := exec_request (c := .resume rq) rfl hready
  have htview := htans _ _ (sized_of_length _ (by rw [hargs]; rfl))
  have huview := huans _ _ (sized_of_length _ (by rw [hargs]; rfl))
  have htstate := State.analysis_of_answered htview
  have hustate := State.analysis_of_answered huview
  have htchannels := State.channels_of_answered htview
  have huchannels := State.channels_of_answered huview
  have htpoints := State.points_of_answered htview
  have hupoints := State.points_of_answered huview
  have htinsts := State.insts_of_answered htview
  refine ⟨t, u, ht, hu, ?_, ?_, ?_, ?_, ?_, ?_, fun hactive hch hgr => ?_, fun hother => ?_, ?_, fun hactive => ?_,
    fun hother => ?_⟩
  · obtain ⟨r, hr, hra⟩ := State.reply_of_answered htview
    exact ⟨r, hr, by rw [hra, htstate]⟩
  · obtain ⟨r, hr, hra⟩ := State.reply_of_answered huview
    exact ⟨r, hr, by rw [hra, hustate]⟩
  · exact (State.tables_of_answered htview).trans (State.tables_of_shell (suspendAnalysis_shell s))
  · exact (State.tables_of_answered huview).trans (State.tables_of_shell (resumeAnalysis_shell s))
  · exact (State.generation_of_answered htview).trans (State.generation_of_shell (suspendAnalysis_shell s))
  · exact (State.generation_of_answered huview).trans (State.generation_of_shell (resumeAnalysis_shell s))
  · rw [htstate, suspendAnalysis_state hactive hch hgr, htchannels, htpoints, htinsts, suspendAnalysis_of_active hactive,
      suspendCheck_channels, suspendCheck_points, suspendCheck_insts]
    refine ⟨rfl, fun c hrun => ?_, fun c hset hbound hgen => ?_, fun c hidle => ?_, fun c hrest => ?_, fun p hrun => ?_,
      fun p hrest => ?_, fun p hidle => ?_⟩
    · obtain ⟨v, ⟨hv, -, -⟩, hc, -⟩ := suspendVisits_channel s c
      change v.channels[c] = s.channels[c] at hv
      rw [hc, suspendChannel_of_running (by rw [hv]; exact hrun), modChannel_same, hv]
    · obtain ⟨v, ⟨hv, hvi, hshell⟩, hc, hi⟩ := suspendVisits_channel s c
      change v.channels[c] = s.channels[c] at hv
      have hbound' : v.channelBound c = true := by
        rw [State.channelBound_congr (s := s) (State.tables_of_shell hshell) (by rw [hv])]
        exact hbound
      have hgen' : v.channels[c].gen = v.generation := by
        rw [hv, State.generation_of_shell hshell]
        exact hgen
      have hnow : (endRun c v).now = s.clock.counter :=
        congrArg Clock.counter (State.clock_of_shell ((endRun_shell c v).trans hshell))
      obtain ⟨hchannels, hinsts⟩ := runEnded_changed c (Channel.enterSuspended (endRun c v).now) v
      have hdo : suspendChannel c v =
          suspendCheck ((endRun c v).modChannel c (Channel.enterSuspended (endRun c v).now)) :=
        (suspendChannel_of_settling (by rw [hv]; exact hset)).trans (leaveRun_suspend hbound' hgen')
      refine ⟨?_, fun i hic => ?_⟩
      · rw [hc, hdo, hchannels, upd_same, hnow, hv]
        rfl
      · rw [hi i hic, hdo, hinsts, if_pos hic, hvi i hic]
        exact ⟨rfl, rfl⟩
    · obtain ⟨v, ⟨hv, -, -⟩, hc, -⟩ := suspendVisits_channel s c
      change v.channels[c] = s.channels[c] at hv
      rw [hc, suspendChannel_of_idle (by rw [hv]; exact hidle), modChannel_same]
      rfl
    · obtain ⟨v, ⟨hv, -, -⟩, hc, -⟩ := suspendVisits_channel s c
      change v.channels[c] = s.channels[c] at hv
      rw [hc, suspendChannel_of_resting (by rw [hv]; exact hrest), hv]
    · obtain ⟨v, hv, hp⟩ := suspendVisits_point s p
      rw [hp, suspendPoint_of_assembling (by rw [hv]; exact hrun), modPoint_same, hv]
    · obtain ⟨v, hv, hp⟩ := suspendVisits_point s p
      rw [hp, suspendPoint_of_resting (by rw [hv]; exact hrest), hv]
    · obtain ⟨v, hv, hp⟩ := suspendVisits_point s p
      rw [hp, suspendPoint_of_idle (by rw [hv]; exact hidle), modPoint_same]
      exact ⟨rfl, rfl⟩
  · have hstands : suspendAnalysis s = s := if_neg hother
    rw [htstate, htchannels, htpoints, hstands]
    exact ⟨rfl, rfl, rfl⟩
  · rw [hustate]
    by_cases hactive : s.analysis = .active
    · rw [resumeAnalysis_of_active hactive]; exact hactive
    · rw [resumeAnalysis_of_other hactive]
      obtain ⟨ha, -, -⟩ := resumeVisits_reports s
      exact ha
  · rw [huchannels, hupoints, resumeAnalysis_of_active hactive]
    exact ⟨rfl, rfl⟩
  · obtain ⟨-, hch, hgr⟩ := resumeVisits_reports s
    rw [State.channelReport_of_answered huview, State.gridReport_of_answered huview, huchannels, hupoints,
      resumeAnalysis_of_other hother]
    refine ⟨hch, hgr, fun c hrun => ?_, fun c hsusp hidle => ?_, fun c hsusp hstream => ?_, fun p hrun => ?_, fun p hsusp => ?_⟩
    · obtain ⟨v, hv, hc⟩ := resumeVisits_channel s c
      rw [hc, resumeChannel_of_running (by rw [hv]; exact hrun), modChannel_same, hv]
    · obtain ⟨v, hv, hc⟩ := resumeVisits_channel s c
      rw [hc, resumeChannel_of_idle_stream (by rw [hv]; exact hsusp) (by rw [hv]; exact hidle), modChannel_same]
      rfl
    · obtain ⟨v, hv, hc⟩ := resumeVisits_channel s c
      rw [hc, resumeChannel_of_stream (by rw [hv]; exact hsusp) (by rw [hv]; exact hstream)]
      exact settleCheck_state (congrArg Channel.state (modChannel_same v c _))
    · obtain ⟨v, hv, hp⟩ := resumeVisits_point s p
      rw [hp, resumePoint_of_assembling (by rw [hv]; exact hrun), modPoint_same, hv]
    · obtain ⟨v, hv, hp⟩ := resumeVisits_point s p
      rw [hp, resumePoint_of_suspended (by rw [hv]; exact hsusp), modPoint_same]
      exact ⟨rfl, rfl⟩

end Sys2Proof.Machine
end

section
/-! PROOFS. Restart PROCESSING and Restart FULL as requests (R45, R78, R104, R130, R156, R169, R183, R209, R210): with the
slots free and no landing, no channel's return to its start creates a notice. -/

namespace Sys2Proof.Machine

/-- The slots are FREE and no landing lasts: then the end of a run and an adoption create no notice. What stands of the
state `s` stands. -/
structure Quiet (s u : State) : Prop where
  slots : u.slots = Vector.replicate 2 Slot.init
  landing : u.landing = false
  notices : u.notices = s.notices
  errors : u.errors = s.errors

section
variable {s u : State} {c : Fin 24}

theorem captureTruncate_of_idle (h : ∀ k : Fin 2, u.slots[k].fillingFor c = false) : captureTruncate c u = u :=
  forAll_keeps (· = u) (fun k v hv => by subst hv; rw [h k]; rfl) u rfl

theorem Quiet.captureTruncate_eq (h : Quiet s u) (c : Fin 24) : captureTruncate c u = u :=
  captureTruncate_of_idle fun k => by
    have hk : u.slots[k] = Slot.init := by rw [h.slots]; simp
    rw [hk]
    rfl

theorem landingCheck_of_no_landing (h : u.landing = false) : landingCheck u = u := by
  rw [landingCheck, h]
  rfl

theorem Quiet.modChannel (h : Quiet s u) (c : Fin 24) (f : Channel → Channel) : Quiet s (u.modChannel c f) :=
  ⟨h.slots, h.landing, h.notices, h.errors⟩

theorem Quiet.mapInsts (h : Quiet s u) (f : Fin 96 → Inst → Inst) : Quiet s (u.mapInsts f) :=
  ⟨h.slots, h.landing, h.notices, h.errors⟩

theorem Quiet.recomputeWorst (h : Quiet s u) (k : Fin 8) : Quiet s (recomputeWorst k u) :=
  ⟨h.slots, h.landing, h.notices, h.errors⟩

theorem Quiet.captureTruncate (h : Quiet s u) (c : Fin 24) : Quiet s (captureTruncate c u) := by
  rwa [h.captureTruncate_eq]

theorem Quiet.landingCheck (h : Quiet s u) : Quiet s (landingCheck u) := by rwa [landingCheck_of_no_landing h.landing]

theorem Quiet.endRun (h : Quiet s u) (c : Fin 24) : Quiet s (endRun c u) :=
  ((h.modChannel c _).mapInsts _).captureTruncate c

theorem Quiet.adoptIfPending (h : Quiet s u) (c : Fin 24) : Quiet s (adoptIfPending c u) := by
  unfold Machine.adoptIfPending
  split
  · simp only [adopt]
    refine Quiet.landingCheck (Quiet.recomputeWorst (Quiet.recomputeWorst (Quiet.mapInsts (Quiet.modChannel ?_ _ _) _) _) _)
    split
    · exact h.captureTruncate c
    · exact h
  · exact h

theorem Quiet.restartChannel (h : Quiet s u) (c : Fin 24) : Quiet s (restartChannel c u) := by
  simp only [Machine.restartChannel]
  refine Quiet.modChannel (Quiet.adoptIfPending ?_ c) c _
  split
  · exact h.endRun c
  · exact h

theorem adoptIfPending_gen (c : Fin 24) (s : State) : (adoptIfPending c s).channels[c].gen = s.generation := by
  by_cases h : s.channels[c].gen = s.generation
  · rw [adoptIfPending_of_current h, h]
  · have hpending : s.channelPending c = true := decide_eq_true h
    rw [adoptIfPending, if_pos hpending, adopt_channels, upd_same]
    rfl

theorem restIfBound_eq (c : Fin 24) (s : State) :
    ∃ st, (s.modChannel c (Channel.rest (if s.channelBound c then .idle else .unbound))).channels[c] =
        Channel.rest st s.channels[c] ∧ (st = .idle ∨ st = .unbound) := by
  refine ⟨_, modChannel_same s c _, ?_⟩
  split
  · exact .inl rfl
  · exact .inr rfl

/-- A channel after Restart PROCESSING (R45). -/
theorem restartChannel_eq (c : Fin 24) (s : State) : ∃ x st, (restartChannel c s).channels[c] = Channel.rest st x ∧
    x.gen = s.generation ∧ (st = .idle ∨ st = .unbound) := by
  have hgen : (adoptIfPending c (if s.channels[c].state.inRun then endRun c s else s)).channels[c].gen = s.generation := by
    rw [adoptIfPending_gen]
    split
    · exact State.generation_of_shell (endRun_shell c s)
    · rfl
  obtain ⟨st, hrest, hst⟩ := restIfBound_eq c (adoptIfPending c (if s.channels[c].state.inRun then endRun c s else s))
  exact ⟨_, st, hrest, hgen, hst⟩

end

/-! ### The stages of Restart PROCESSING (R210) -/

section
variable (s : State)

/-- The channels returned to their start. -/
def channelsRestarted : State := forAll 24 restartChannel (restartQuiet s)

/-- The instances, turbines and points returned to their start too. -/
def blocksRestarted : State := forAll 2 restartPoint (restartTurbines (restartInsts (channelsRestarted s)))

theorem restartProcessingEffect_eq : restartProcessingEffect s = restartNotices (blocksRestarted s) := rfl

theorem restartChannel_at (c : Fin 24) (s : State) : Moves (.atChannel c) s (restartChannel c s) :=
  restartChannel_moves c (Footprint.atChannel_runs c) .refl

theorem restartPoint_at (p : Fin 2) (s : State) :
    Moves { Footprint.nothing with point := (· = p), analysis := True } s (restartPoint p s) := .point p _ rfl .refl

theorem channelsRestarted_quiet : Quiet s (channelsRestarted s) :=
  forAll_keeps (Quiet s) (fun c _ h => h.restartChannel c) _ ⟨rfl, rfl, rfl, rfl⟩

theorem channelsRestarted_moves :
    Moves { Footprint.nothing with
      channel := fun _ => True, inst := fun _ => True, slots := True, analysis := True } (restartQuiet s)
      (channelsRestarted s) :=
  Moves.refl.forAll fun c _ h => restartChannel_moves c ⟨trivial, fun _ _ => trivial, trivial, trivial⟩ h

theorem restartChannel_reports (c : Fin 24) : SameReports s (restartChannel c s) := by
  simp only [restartChannel]
  refine .trans (.trans ?_ (adoptIfPending_reports c _)) (modChannel_reports c _ _)
  split
  · exact endRun_reports c s
  · exact ⟨rfl, rfl, rfl⟩

theorem channelsRestarted_reports : SameReports (restartQuiet s) (channelsRestarted s) :=
  forAll_keeps (SameReports _) (fun c u h => h.trans (restartChannel_reports u c)) _ ⟨rfl, rfl, rfl⟩

/-- The restart of the points writes the points alone. -/
theorem restartPoints_eq (u : State) : forAll 2 restartPoint u = { u with points := (forAll 2 restartPoint u).points } :=
  forAll_keeps (fun v => v = { u with points := v.points }) (fun p v h => by rw [h]; rfl) u rfl

theorem blocksRestarted_eq : ∃ v, blocksRestarted s = { restartTurbines (restartInsts (channelsRestarted s)) with points := v } :=
  ⟨_, restartPoints_eq _⟩

theorem blocksRestarted_point (p : Fin 2) : ∃ x st, (blocksRestarted s).points[p] =
      { GridPoint.rest st x with
        alarm := .normal, raiseCount := 0, clearCount := 0, sync := .none, lastResult := none } ∧
      (st = .idle ∨ st = .unbound) := by
  obtain ⟨v, -, hp, -⟩ := forAll_point restartPoint_at p (restartTurbines (restartInsts (channelsRestarted s)))
  refine ⟨v.points[p], _, hp.trans (modPoint_same v p _), ?_⟩
  split
  · exact .inl rfl
  · exact .inr rfl

end

/-- Settles O52: Restart FULL is answered; the restart's stages leave what the statement lists. -/
theorem restartRequestsAnswered : Obligations.RestartRequestsAnswered := by
  intro rq s hready hargs
  obtain ⟨t, ht, htans⟩ := exec_request (c := .restartFull rq) rfl hready
  obtain ⟨u, hu, huans⟩ := exec_request (c := .restartProcessing rq) rfl hready
  have hview := huans _ _ (sized_of_length _ (by rw [hargs]; rfl))
  rw [restartProcessingEffect_eq] at hview
  have hshell : (restartProcessingEffect s).shell = s.shell := restartProcessingEffect_shell s
  rw [restartProcessingEffect_eq] at hshell
  have hquiet := channelsRestarted_quiet s
  have hmoves := channelsRestarted_moves s
  obtain ⟨hanalysis, hch, hgr⟩ := channelsRestarted_reports s
  have hchannels : ∀ c : Fin 24, ∃ x st, (channelsRestarted s).channels[c] = Channel.rest st x ∧ x.gen = s.generation ∧
      (st = .idle ∨ st = .unbound) := by
    intro c
    obtain ⟨w, ⟨-, -, hw⟩, hc, -⟩ := forAll_channel restartChannel_at c (restartQuiet s)
    obtain ⟨x, st, hx, hgen, hst⟩ := restartChannel_eq c w
    exact ⟨x, st, hc.trans hx, hgen.trans (State.generation_of_shell hw), hst⟩
  have hpoints := blocksRestarted_point s
  obtain ⟨v, hblocks⟩ := blocksRestarted_eq s
  generalize channelsRestarted s = w at *
  generalize blocksRestarted s = b at *
  refine ⟨t, u, ht, hu, htans _ _ (sized_of_length _ (by rw [hargs]; rfl)), ?_, ?_, ?_, ?_, ?_, ?_, ?_, ?_, ?_, ?_, ?_, ?_, ?_,
    ?_, ?_, ?_, fun k => ?_, fun i => ?_, fun k => ?_, fun c => ?_, fun p => ?_, State.reply_of_answered hview⟩
  · rw [State.tables_of_answered hview, State.tables_of_shell hshell]
  · rw [State.staged_of_answered hview, State.staged_of_shell hshell]
  · rw [State.generation_of_answered hview, State.generation_of_shell hshell]
  · rw [State.errors_of_answered hview, hblocks]
    exact hquiet.errors
  · rw [State.clock_of_answered hview, State.clock_of_shell hshell]
  · rw [State.node_of_answered hview, State.node_of_shell hshell]
  · rw [State.items_of_answered hview, hblocks]
    exact hmoves.items_stand id
  · rw [State.scheduleDay_of_answered hview, hblocks]
    exact hmoves.day_stands id
  · rw [State.ice_of_answered hview, hblocks]
    exact hmoves.ice_eq fun _ => id
  · rw [State.counts_of_answered hview, hblocks]
    exact hmoves.counts_stand id
  · rw [State.next_of_answered hview, hblocks]
    change w.notices.next = _
    rw [hquiet.notices]
  · rw [State.queue_of_answered hview, hblocks]
    exact congrArg (fun q : NoticeQueue => q.queue.filter fun n => q.sending = some n.number) hquiet.notices
  · rw [State.analysis_of_answered hview, hblocks]
    exact hanalysis
  · rw [State.landing_of_answered hview, hblocks]
    exact hquiet.landing
  · rw [State.channelReport_of_answered hview, hblocks]
    exact hch
  · rw [State.gridReport_of_answered hview, hblocks]
    exact hgr
  · rw [State.slots_of_answered hview, hblocks]
    change w.slots[k].state = _
    rw [hquiet.slots]
    simp [Slot.init]
  · rw [State.insts_of_answered hview, hblocks]
    have hi : (restartInsts w).insts[i] = _ := tabulate_get 96 _ i
    change (restartInsts w).insts[i].alarm = _ ∧ (restartInsts w).insts[i].lastResult = _
    rw [hi]
    exact ⟨rfl, rfl⟩
  · rw [State.turbine_of_answered hview k, hblocks]
    have hk : (restartTurbines (restartInsts w)).turbines[k] =
        { w.turbines[k].clearStatus with worst := 0 } := tabulate_get 8 _ k
    have hcurtail : w.turbines[k].curtail = s.turbines[k].curtail := hmoves.curtail_stands id
    change (restartTurbines (restartInsts w)).turbines[k].freshness = _ ∧
      (restartTurbines (restartInsts w)).turbines[k].status = _ ∧
      (restartTurbines (restartInsts w)).turbines[k].worst = _ ∧
      (restartTurbines (restartInsts w)).turbines[k].curtail = _
    rw [hk]
    exact ⟨rfl, rfl, rfl, hcurtail⟩
  · rw [State.channels_of_answered hview, hblocks]
    change w.channels[c].gen = _ ∧ w.channels[c].expect = _ ∧
      w.channels[c].idleExpiry = _ ∧ w.channels[c].marked = _ ∧
      (w.channels[c].state = _ ∨ w.channels[c].state = _)
    obtain ⟨x, st, hx, hgen, hst⟩ := hchannels c
    rw [hx]
    exact ⟨hgen, rfl, rfl, rfl, hst⟩
  · rw [State.points_of_answered hview]
    obtain ⟨x, st, hx, hst⟩ := hpoints p
    change b.points[p].alarm = _ ∧ b.points[p].raiseCount = _ ∧
      b.points[p].clearCount = _ ∧ b.points[p].sync = _ ∧
      b.points[p].lastResult = _ ∧ b.points[p].expect = _ ∧
      (b.points[p].intake = _ ∨ b.points[p].intake = _)
    rw [hx]
    exact ⟨rfl, rfl, rfl, rfl, rfl, rfl, hst⟩

end Sys2Proof.Machine
end

section
/-! PROOFS. The stages of an Apply (R203): what each leaves, the landing, and what becomes of one channel and its instances
(R2, R24, R25, R35, R38, R40). -/

namespace Sys2Proof.Machine

/-! ### The stages -/

section
variable (s : State)

def turbinesApplied : State := forAll 8 (applyTurbine s.tables) (landTables s)
def countsReset : State := resetCounts s.tables (turbinesApplied s)
def sourcesApplied : State := forAll 24 (sourceChange s.tables) (countsReset s)
def generationsTaken : State := forAll 24 takeGeneration (sourcesApplied s)
def iceApplied : State := forAll 8 (fun k => applyIce s.tables.ice[k] k) (landingCheck (generationsTaken s))
def entriesApplied : State := forAll 2 (fun p => applyGridEntry s.tables.grid[p] p) (iceApplied s)

theorem blocksApplied_eq : blocksApplied s = forAll 2 (applyGridBinding s.tables) (entriesApplied s) := rfl

/-- The footprint of the work on all channels. -/
def Footprint.channels : Footprint :=
  { Footprint.nothing with channel := fun _ => True, inst := fun _ => True, slots := True, analysis := True }

theorem Footprint.channels_runs (c : Fin 24) : Footprint.channels.Runs c := ⟨trivial, fun _ _ => trivial, trivial, trivial⟩

theorem turbinesApplied_moves :
    Moves { Footprint.nothing with turbines := True, inst := fun _ => True } (landTables s) (turbinesApplied s) :=
  Moves.refl.forAll fun k _ h => applyTurbine_moves s.tables k trivial (fun _ _ => trivial) h

theorem sourcesApplied_moves : Moves .channels (countsReset s) (sourcesApplied s) :=
  Moves.refl.forAll fun c _ h => sourceChange_moves s.tables c (Footprint.channels_runs c) h

theorem generationsTaken_moves : Moves .channels (sourcesApplied s) (generationsTaken s) :=
  Moves.refl.forAll fun c _ h => takeGeneration_moves c (Footprint.channels_runs c) h

theorem iceApplied_moves : Moves { Footprint.nothing with ice := fun _ => True } (landingCheck (generationsTaken s))
    (iceApplied s) := Moves.refl.forAll fun k _ h => applyIce_moves s.tables.ice[k] k trivial h

theorem entriesApplied_moves : Moves { Footprint.nothing with point := fun _ => True } (iceApplied s) (entriesApplied s) :=
  Moves.refl.forAll fun p _ h => applyGridEntry_moves s.tables.grid[p] p trivial h

theorem bindingsApplied_moves : Moves { Footprint.nothing with point := fun _ => True, analysis := True } (entriesApplied s)
    (blocksApplied s) := Moves.refl.forAll fun p _ h => applyGridBinding_moves s.tables p trivial trivial h

/-- The work after the channels have taken the generation: it reaches no channel, no instance and no count. -/
theorem afterGenerations_run : (applyEffect s).channels = (generationsTaken s).channels ∧
    (applyEffect s).insts = (generationsTaken s).insts := by
  obtain ⟨hch, hih⟩ := (applyEffect_moves s).run_stands (fun _ => id) fun _ => id
  obtain ⟨hcg, hig⟩ := (bindingsApplied_moves s).run_stands (fun _ => id) fun _ => id
  obtain ⟨hcf, hif⟩ := (entriesApplied_moves s).run_stands (fun _ => id) fun _ => id
  obtain ⟨hce, hie⟩ := (iceApplied_moves s).run_stands (fun _ => id) fun _ => id
  obtain ⟨hcd, hid⟩ := landingCheck_run (generationsTaken s)
  exact ⟨hch.trans (hcg.trans (hcf.trans (hce.trans hcd))), hih.trans (hig.trans (hif.trans (hie.trans hid)))⟩

theorem countsReset_shell : (countsReset s).shell = (landTables s).shell := (turbinesApplied_moves s).shell

theorem sourcesApplied_shell : (sourcesApplied s).shell = (landTables s).shell :=
  (sourcesApplied_moves s).shell.trans (countsReset_shell s)

theorem generationsTaken_shell : (generationsTaken s).shell = (landTables s).shell :=
  (generationsTaken_moves s).shell.trans (sourcesApplied_shell s)

/-- The counts of an entry that becomes valid, or stays valid with another match, are reset (R24). -/
theorem applyEffect_counts (e : Fin 64) : (applyEffect s).counts[e] =
    if s.staged.tables.streams[e].valid = true ∧ s.tables.streams[e] ≠ s.staged.tables.streams[e] then ⟨0, 0⟩
    else s.counts[e] := by
  have hturbines : (turbinesApplied s).counts = s.counts := (turbinesApplied_moves s).counts_stand id
  have htables : (turbinesApplied s).tables = s.staged.tables := State.tables_of_shell (turbinesApplied_moves s).shell
  have hreset : (countsReset s).counts[e] = _ := tabulate_get 64 _ e
  have hlanding : (landingCheck (generationsTaken s)).counts = (generationsTaken s).counts :=
    (landingCheck_moves (W := { Footprint.nothing with analysis := True }) trivial .refl).counts_stand id
  have hlast : (applyEffect s).counts = (blocksApplied s).counts := (applyEffect_moves s).counts_stand id
  rw [hlast, (bindingsApplied_moves s).counts_stand id, (entriesApplied_moves s).counts_stand id,
    (iceApplied_moves s).counts_stand id, hlanding, (generationsTaken_moves s).counts_stand id,
    (sourcesApplied_moves s).counts_stand id, hreset, htables, hturbines]

end

/-! ### What keeps a channel's configuration and generation -/

/-- The configuration and generation in force of channel `c` are the same. -/
def SameConfig (c : Fin 24) (s t : State) : Prop :=
  t.channels[c].config = s.channels[c].config ∧ t.channels[c].gen = s.channels[c].gen

section
variable {s t u : State} {c : Fin 24}

theorem SameConfig.trans (h : SameConfig c s t) (h' : SameConfig c t u) : SameConfig c s u :=
  ⟨h'.1.trans h.1, h'.2.trans h.2⟩

theorem SameConfig.of_channels (h : t.channels = s.channels) : SameConfig c s t := by
  rw [SameConfig, h]
  exact ⟨rfl, rfl⟩

theorem modChannel_config (f : Channel → Channel) (hf : ∀ x, (f x).config = x.config ∧ (f x).gen = x.gen) :
    SameConfig c s (s.modChannel c f) := by
  rw [SameConfig, modChannel_same]
  exact hf _

theorem settleCheck_config (c : Fin 24) (s : State) : SameConfig c s (settleCheck c s) := by
  unfold settleCheck
  split
  · exact modChannel_config _ fun _ => ⟨rfl, rfl⟩
  · exact ⟨rfl, rfl⟩

theorem endRun_config (c : Fin 24) (s : State) : SameConfig c s (endRun c s) := by
  rw [SameConfig, endRun_channel_same]
  exact ⟨rfl, rfl⟩

theorem bindCheck_config (c : Fin 24) (s : State) : SameConfig c s (bindCheck c s) := by
  unfold bindCheck
  split
  · split
    · split
      · exact modChannel_config _ fun _ => ⟨rfl, rfl⟩
      · exact modChannel_config _ fun _ => ⟨rfl, rfl⟩
    · exact ⟨rfl, rfl⟩
  · exact modChannel_config _ fun _ => ⟨rfl, rfl⟩

theorem adopt_config (c : Fin 24) (s : State) :
    (adopt c s).channels[c].config = s.tables.configOf c ∧ (adopt c s).channels[c].gen = s.generation := by
  rw [adopt_channels, upd_same]
  exact ⟨rfl, rfl⟩

theorem adoptSettling_config (c : Fin 24) (s : State) : SameConfig c (adopt c s) (adoptSettling c s) := by
  unfold adoptSettling
  extract_lets geometry u
  split
  · refine .trans ?_ (settleCheck_config c _)
    split
    · exact modChannel_config _ fun _ => ⟨rfl, rfl⟩
    · exact ⟨rfl, rfl⟩
  · refine .trans (.trans (endRun_config c u) ?_) (.of_channels (suspendCheck_channels _))
    exact modChannel_config _ fun _ => ⟨rfl, rfl⟩

/-- A channel without a difference, or outside RUNNING, takes configuration and generation at once (R38). -/
theorem takeGeneration_config (h : s.channels[c].config = s.tables.configOf c ∨ s.channels[c].state ≠ .running) :
    (takeGeneration c s).channels[c].config = s.tables.configOf c ∧
      (takeGeneration c s).channels[c].gen = s.generation := by
  unfold takeGeneration
  split
  next hsame =>
    obtain ⟨hconfig, hgen⟩ := bindCheck_config c (landingCheck (s.modChannel c fun x => { x with gen := s.generation }))
    rw [landingCheck_channels, modChannel_same] at hconfig hgen
    exact ⟨hconfig.trans hsame, hgen⟩
  next hother =>
    obtain ⟨haconfig, hagen⟩ := adopt_config c s
    split
    next hrun => exact absurd hrun (h.resolve_left hother)
    next =>
      obtain ⟨hconfig, hgen⟩ := adoptSettling_config c s
      exact ⟨hconfig.trans haconfig, hgen.trans hagen⟩
    all_goals
      obtain ⟨hconfig, hgen⟩ := bindCheck_config c (adopt c s)
      exact ⟨hconfig.trans haconfig, hgen.trans hagen⟩

/-- A RUNNING channel with a difference stays as it is (R38). -/
theorem takeGeneration_of_pending (h : s.channels[c].config ≠ s.tables.configOf c) (hrun : s.channels[c].state = .running) :
    takeGeneration c s = s := by
  simp only [takeGeneration, if_neg h, hrun]

theorem bindCheck_of_bound (hb : s.channelBound c = true) (hs : s.channels[c].state ≠ .unbound) : bindCheck c s = s := by
  rw [bindCheck, if_pos hb, if_neg hs]

theorem bindCheck_of_not_bound (hb : s.channelBound c = false) : bindCheck c s = s.modChannel c (Channel.rest .unbound) := by
  rw [bindCheck, hb, if_neg Bool.false_ne_true]

theorem channelBound_of_no_source (h : s.tables.sourceOf (.vibChannel c) = none) : s.channelBound c = false := by
  rw [State.channelBound, h]
  rfl

/-- A bound RUNNING channel without a difference takes the generation and nothing else. -/
theorem takeGeneration_of_same (h : s.channels[c].config = s.tables.configOf c) (hrun : s.channels[c].state = .running)
    (hb : s.channelBound c = true) :
    takeGeneration c s = landingCheck (s.modChannel c fun x => { x with gen := s.generation }) := by
  have hchannel : (landingCheck (s.modChannel c fun x => { x with gen := s.generation })).channels[c] =
      { s.channels[c] with gen := s.generation } := by rw [landingCheck_channels, modChannel_same]
  have htables : (landingCheck (s.modChannel c fun x => { x with gen := s.generation })).tables = s.tables := by
    rw [State.tables_of_shell (landingCheck_shell _)]
    rfl
  have hbound : (landingCheck (s.modChannel c fun x => { x with gen := s.generation })).channelBound c = true :=
    (State.channelBound_congr htables (by rw [hchannel])).trans hb
  have hstate : (landingCheck (s.modChannel c fun x => { x with gen := s.generation })).channels[c].state ≠ .unbound := by
    rw [hchannel]
    exact fun hu => absurd (hrun.symm.trans hu) (by decide)
  rw [takeGeneration, if_pos h, bindCheck_of_bound hbound hstate]

/-- A channel without a source and without a run is UNBOUND when it has taken the generation. -/
theorem takeGeneration_unbound (hsource : s.tables.sourceOf (.vibChannel c) = none) (hst : s.channels[c].state = .unbound) :
    (takeGeneration c s).channels[c].state = .unbound ∧ (takeGeneration c s).channels[c].expect = none := by
  unfold takeGeneration
  split
  · have hb : (landingCheck (s.modChannel c fun x => { x with gen := s.generation })).channelBound c = false :=
      channelBound_of_no_source (by rw [State.tables_of_shell (landingCheck_shell _)]; exact hsource)
    rw [bindCheck_of_not_bound hb, modChannel_same]
    exact ⟨rfl, rfl⟩
  · have hb : (adopt c s).channelBound c = false :=
      channelBound_of_no_source (by rw [State.tables_of_shell (adopt_shell c s)]; exact hsource)
    simp only [hst]
    rw [bindCheck_of_not_bound hb, modChannel_same]
    exact ⟨rfl, rfl⟩

/-! ### A channel's source (R25) -/

variable {old : Tables}

theorem leaveRun_unbind_channel (c : Fin 24) (s : State) :
    ∃ x, (leaveRun c .unbind s).channels[c] = Channel.rest .unbound x := by
  rw [leaveRun_eq, suspendCheck_channels, runLeft, if_pos (.inl rfl)]
  exact ⟨_, modChannel_same _ c _⟩

theorem sourceChange_of_lost {a : Fin 64} (ho : old.sourceOf (.vibChannel c) = some a)
    (hn : s.tables.sourceOf (.vibChannel c) = none) :
    (sourceChange old c s).channels[c].state = .unbound ∧ (sourceChange old c s).channels[c].expect = none := by
  have hdo : sourceChange old c s =
      if s.channels[c].state.inRun then leaveRun c .unbind s else s.modChannel c (Channel.rest .unbound) := by
    simp only [sourceChange, ho, hn]
  by_cases hin : s.channels[c].state.inRun = true
  · obtain ⟨x, hx⟩ := leaveRun_unbind_channel c s
    rw [hdo.trans (if_pos hin), hx]
    exact ⟨rfl, rfl⟩
  · rw [hdo.trans (if_neg hin), modChannel_same]
    exact ⟨rfl, rfl⟩

theorem sourceChange_of_kept {a b : Fin 64} (ho : old.sourceOf (.vibChannel c) = some a)
    (hn : s.tables.sourceOf (.vibChannel c) = some b) : sourceChange old c s =
      s.modChannel c fun x => { x with expect := if a = b ∧ old.streams[a] = s.tables.streams[b] then x.expect else none } := by
  have hdo : sourceChange old c s = if a = b ∧ old.streams[a] = s.tables.streams[b] then s
      else s.modChannel c fun x => { x with expect := none } := by simp only [sourceChange, ho, hn]
  rw [hdo]
  by_cases h : a = b ∧ old.streams[a] = s.tables.streams[b]
  · have hid : s.modChannel c (fun x => { x with expect := x.expect }) = s :=
      congrArg (fun v => { s with channels := v }) (upd_id (f := fun x : Channel => { x with expect := x.expect }) rfl)
    simp only [if_pos h, hid]
  · simp only [if_neg h]

theorem sourceChange_of_no_source (ho : old.sourceOf (.vibChannel c) = none) : sourceChange old c s = s := by
  simp only [sourceChange, ho]

/-- A change of source starts no run. -/
theorem sourceChange_not_running (h : s.channels[c].state ≠ .running) :
    (sourceChange old c s).channels[c].state ≠ .running := by
  cases ho : old.sourceOf (.vibChannel c) with
  | none => rwa [sourceChange_of_no_source ho]
  | some a =>
    cases hn : s.tables.sourceOf (.vibChannel c) with
    | none =>
      obtain ⟨hst, -⟩ := sourceChange_of_lost ho hn
      rw [hst]
      decide
    | some b =>
      rw [sourceChange_of_kept ho hn, modChannel_same]
      exact h

end

/-! ### One channel in an Apply -/

section
variable {s : State}

theorem sourceChange_at (old : Tables) (c : Fin 24) (s : State) : Moves (.atChannel c) s (sourceChange old c s) :=
  sourceChange_moves old c (Footprint.atChannel_runs c) .refl

theorem takeGeneration_at (c : Fin 24) (s : State) : Moves (.atChannel c) s (takeGeneration c s) :=
  takeGeneration_moves c (Footprint.atChannel_runs c) .refl

/-- An Apply seen from channel `c`: the source is looked at, then the generation is taken, in states that agree there with
the one before. -/
theorem applyEffect_channel (s : State) (c : Fin 24) : ∃ v w, v.channels[c] = s.channels[c] ∧
    (∀ i, instChannel i = c → v.insts[i] = (turbinesApplied s).insts[i]) ∧ v.shell = (landTables s).shell ∧
    SameChannel c (sourceChange s.tables c v) w ∧ w.shell = (landTables s).shell ∧
    (applyEffect s).channels[c] = (takeGeneration c w).channels[c] ∧
    ∀ i, instChannel i = c → (applyEffect s).insts[i] = (takeGeneration c w).insts[i] := by
  obtain ⟨hchannels, hinsts⟩ := afterGenerations_run s
  obtain ⟨v, ⟨hvc, hvi, hvs⟩, hsources⟩ := forAll_channel (sourceChange_at s.tables) c (countsReset s)
  obtain ⟨w, hw, hwc, hwi, -⟩ := forAll_channel takeGeneration_at c (sourcesApplied s)
  have hstart : (countsReset s).channels = s.channels := (turbinesApplied_moves s).channels_eq fun _ => id
  have hshell : v.shell = (landTables s).shell := hvs.trans (countsReset_shell s)
  have hboth := hsources.trans hw
  refine ⟨v, w, hvc.trans (by rw [hstart]), hvi, hshell, hboth, ?_, by rw [hchannels]; exact hwc, fun i hi => ?_⟩
  · exact hw.2.2.trans (sourcesApplied_shell s)
  · rw [hinsts]
    exact hwi i hi

theorem applyEffect_generation (s : State) : (applyEffect s).generation = (s.generation + 1) % 65536 :=
  State.generation_of_shell (applyEffect_shell s)

/-- A channel outside RUNNING has the new configuration and generation. -/
theorem applyEffect_not_running {c : Fin 24} (h : s.channels[c].state ≠ .running) :
    (applyEffect s).channels[c].config = s.staged.tables.configOf c ∧
      (applyEffect s).channels[c].gen = (applyEffect s).generation := by
  obtain ⟨v, w, hv, -, hvs, ⟨hw, -, -⟩, hws, hc, -⟩ := applyEffect_channel s c
  have hstate : w.channels[c].state ≠ .running := by
    rw [hw]
    exact sourceChange_not_running (by rwa [hv])
  obtain ⟨hconfig, hgen⟩ := takeGeneration_config (.inr hstate)
  rw [hc, applyEffect_generation]
  exact ⟨hconfig.trans (by rw [State.tables_of_shell hws]; rfl), hgen.trans (by rw [State.generation_of_shell hws]; rfl)⟩

/-- A channel whose source entry goes is UNBOUND (R35). -/
theorem applyEffect_unbound {c : Fin 24} {a : Fin 64} (ho : s.tables.sourceOf (.vibChannel c) = some a)
    (hn : s.staged.tables.sourceOf (.vibChannel c) = none) :
    (applyEffect s).channels[c].state = .unbound ∧ (applyEffect s).channels[c].expect = none ∧
      (applyEffect s).channels[c].config = s.staged.tables.configOf c ∧
      (applyEffect s).channels[c].gen = (applyEffect s).generation := by
  obtain ⟨v, w, hv, -, hvs, ⟨hw, -, -⟩, hws, hc, -⟩ := applyEffect_channel s c
  have hvn : v.tables.sourceOf (.vibChannel c) = none := by rw [State.tables_of_shell hvs]; exact hn
  have hwn : w.tables.sourceOf (.vibChannel c) = none := by rw [State.tables_of_shell hws]; exact hn
  obtain ⟨hst, -⟩ := sourceChange_of_lost ho hvn
  have hwst : w.channels[c].state = .unbound := by rw [hw]; exact hst
  obtain ⟨hunbound, hexpect⟩ := takeGeneration_unbound hwn hwst
  obtain ⟨hconfig, hgen⟩ := takeGeneration_config (s := w) (c := c) (.inr (by rw [hwst]; decide))
  rw [hc, applyEffect_generation]
  exact ⟨hunbound, hexpect, hconfig.trans (by rw [State.tables_of_shell hws]; rfl),
    hgen.trans (by rw [State.generation_of_shell hws]; rfl)⟩

/-- A bound RUNNING channel keeps its run (R38, R25). -/
theorem applyEffect_running {c : Fin 24} {a b : Fin 64} (hrun : s.channels[c].state = .running)
    (hbound : s.channelBound c = true) (ho : s.tables.sourceOf (.vibChannel c) = some a)
    (hn : s.staged.tables.sourceOf (.vibChannel c) = some b) :
    (applyEffect s).channels[c] = { s.channels[c] with
      gen := if s.channels[c].config = s.staged.tables.configOf c then (applyEffect s).generation else s.channels[c].gen
      expect := if a = b ∧ s.tables.streams[a] = s.staged.tables.streams[b] then s.channels[c].expect else none } ∧
    ∀ i, instChannel i = c → (applyEffect s).insts[i] = (turbinesApplied s).insts[i] := by
  obtain ⟨v, w, hv, hvi, hvs, ⟨hw, hwi, -⟩, hws, hc, hi⟩ := applyEffect_channel s c
  have hvt : v.tables = s.staged.tables := State.tables_of_shell hvs
  have hwt : w.tables = s.staged.tables := State.tables_of_shell hws
  have hwg : w.generation = (s.generation + 1) % 65536 := State.generation_of_shell hws
  have hdo := sourceChange_of_kept (s := v) ho (by rw [hvt]; exact hn)
  have hwx : w.channels[c] = { s.channels[c] with
      expect := if a = b ∧ s.tables.streams[a] = s.staged.tables.streams[b] then s.channels[c].expect else none } := by
    rw [hw, hdo, modChannel_same, hv, hvt]
  have hwinsts : ∀ i, instChannel i = c → w.insts[i] = (turbinesApplied s).insts[i] := fun i hic => by
    rw [hwi i hic, hdo]
    exact hvi i hic
  have hwrun : w.channels[c].state = .running := by rw [hwx]; exact hrun
  have hwbound : w.channelBound c = true := by
    simp only [State.channelBound, hwx, hwt, hn] at hbound ⊢
    simpa only [ho, Option.isSome_some] using hbound
  by_cases hsame : s.channels[c].config = s.staged.tables.configOf c
  · have htake := takeGeneration_of_same (s := w) (by rw [hwx, hwt]; exact hsame) hwrun hwbound
    refine ⟨?_, fun i hic => ?_⟩
    · rw [hc, htake, landingCheck_channels, modChannel_same, hwx, hwg, if_pos hsame, applyEffect_generation]
    · rw [hi i hic, htake, landingCheck_insts]
      exact hwinsts i hic
  · have htake := takeGeneration_of_pending (s := w) (by rw [hwx, hwt]; exact hsame) hwrun
    refine ⟨?_, fun i hic => ?_⟩
    · rw [hc, htake, hwx, if_neg hsame]
    · rw [hi i hic, htake]
      exact hwinsts i hic

end

end Sys2Proof.Machine
end

section
/-! PROOFS. The rest of an Apply (R2, R17, R40, R80, R81, R106, R107): the landing, the turbines with their advisories and
windows, the ice records and the grid points. -/

namespace Sys2Proof.Machine

/-! ### The landing and the course of the analysis -/

/-- The landing lasts or no channel is pending. -/
def Landed (s : State) : Prop := s.landing = true ∨ ∀ c : Fin 24, s.channels[c].gen = s.generation

/-- From the first state to the second the generation stands, the analysis stays ACTIVE or not ACTIVE, and the landing does
not end while a channel is pending. -/
def KeepsCourse (s t : State) : Prop :=
  (t.analysis = .active ↔ s.analysis = .active) ∧ t.generation = s.generation ∧ (Landed s → Landed t)

section
variable {s t u : State} {c : Fin 24}

theorem KeepsCourse.refl (s : State) : KeepsCourse s s := ⟨.rfl, rfl, id⟩

theorem KeepsCourse.trans (h : KeepsCourse s t) (h' : KeepsCourse t u) : KeepsCourse s u :=
  ⟨h'.1.trans h.1, h'.2.1.trans h.2.1, h'.2.2 ∘ h.2.2⟩

theorem KeepsCourse.of_same (ha : t.analysis = s.analysis) (hl : t.landing = s.landing) (hc : t.channels = s.channels)
    (hg : t.generation = s.generation) : KeepsCourse s t :=
  ⟨by rw [ha], hg, by rw [Landed, Landed, hl, hc, hg]; exact id⟩

theorem Moves.course {W : Footprint} (h : Moves W s t) (ha : ¬ W.analysis) (hc : ∀ c, ¬ W.channel c) : KeepsCourse s t := by
  obtain ⟨hl, hst, -, -⟩ := h.analysis_stands ha
  exact .of_same hst hl (h.channels_eq hc) (State.generation_of_shell h.shell)

theorem modChannel_course (c : Fin 24) (f : Channel → Channel) (hf : ∀ x, (f x).gen = x.gen ∨ (f x).gen = s.generation) :
    KeepsCourse s (s.modChannel c f) := by
  refine ⟨.rfl, rfl, fun h => h.imp id fun hgen d => ?_⟩
  rw [State.modChannel_channels, upd_get]
  split
  · rcases hf s.channels[d] with heq | heq
    · exact heq.trans (hgen d)
    · exact heq
  · exact hgen d

theorem anyPending_eq_false : s.anyPending = false ↔ ∀ c : Fin 24, s.channels[c].gen = s.generation := by
  simp only [State.anyPending, State.channelPending, List.any_eq_false, List.mem_finRange, true_implies, decide_eq_true_eq,
    not_not]

theorem landingCheck_course (s : State) : KeepsCourse s (landingCheck s) := by
  obtain ⟨ha, -, -⟩ := landingCheck_reports s
  have hg : (landingCheck s).generation = s.generation := State.generation_of_shell (landingCheck_shell s)
  refine ⟨by rw [ha], hg, fun h => ?_⟩
  by_cases hend : (s.landing && !s.anyPending) = true
  · refine .inr ?_
    rw [landingCheck_channels, hg]
    rw [Bool.and_eq_true, Bool.not_eq_true'] at hend
    exact anyPending_eq_false.mp hend.2
  · rwa [landingCheck, if_neg hend]

/-- After the look at the landing it lasts exactly while a channel is pending (R40). -/
theorem landingCheck_landing (h : Landed s) :
    (landingCheck s).landing = true ↔ ∃ c : Fin 24, s.channels[c].gen ≠ s.generation := by
  cases hl : s.landing with
  | false =>
    have hall : ∀ c : Fin 24, s.channels[c].gen = s.generation := h.resolve_left (by rw [hl]; decide)
    rw [landingCheck, hl, Bool.false_and, if_neg Bool.false_ne_true, hl]
    exact iff_of_false Bool.false_ne_true fun ⟨c, hc⟩ => hc (hall c)
  | true =>
    cases hp : s.anyPending with
    | true =>
      rw [landingCheck, hl, hp, Bool.not_true, Bool.and_false, if_neg Bool.false_ne_true, hl]
      refine iff_of_true rfl ?_
      by_contra hno
      push Not at hno
      exact absurd (hp.symm.trans (anyPending_eq_false.mpr hno)) (by decide)
    | false =>
      have hall := anyPending_eq_false.mp hp
      rw [landingCheck, hl, hp, Bool.not_false, Bool.and_true, if_pos rfl]
      obtain ⟨q, e, heq⟩ := offer_eq ({ Offer.base .config 3 0 1 s.generation with value := .generation s.generation })
        { s with landing := false }
      have hnotice : appliedNotice { s with landing := false } = { { s with landing := false } with notices := q, errors := e } := heq
      rw [hnotice]
      exact iff_of_false nofun fun ⟨c, hc⟩ => hc (hall c)

theorem suspendCheck_landing (s : State) : (suspendCheck s).landing = s.landing := by
  simp only [suspendCheck]
  split
  · split
    · obtain ⟨q, e, heq⟩ := suspendedNotice_eq { s with
        analysis := .suspended, channelReport := s.channelReport || s.channelsQuiet
        gridReport := s.gridReport || s.pointsQuiet }
      rw [heq]
    · rfl
  · rfl

theorem suspendCheck_active (s : State) : (suspendCheck s).analysis = .active ↔ s.analysis = .active := by
  by_cases h : s.analysis = .suspending
  · obtain ⟨-, -, ha⟩ := suspendCheck_reports h
    rw [ha, h]
    split <;> decide
  · rw [suspendCheck_of_other h]

theorem suspendCheck_course (s : State) : KeepsCourse s (suspendCheck s) := by
  have hg : (suspendCheck s).generation = s.generation := State.generation_of_shell (suspendCheck_shell s)
  refine ⟨suspendCheck_active s, hg, ?_⟩
  rw [Landed, Landed, suspendCheck_landing, suspendCheck_channels, hg]
  exact id

theorem mapInsts_course (f : Fin 96 → Inst → Inst) (s : State) : KeepsCourse s (s.mapInsts f) := .of_same rfl rfl rfl rfl
theorem recomputeWorst_course (k : Fin 8) (s : State) : KeepsCourse s (recomputeWorst k s) := .of_same rfl rfl rfl rfl

theorem captureTruncate_course (c : Fin 24) (s : State) : KeepsCourse s (captureTruncate c s) :=
  (captureTruncate_moves (W := { Footprint.nothing with slots := True }) c trivial .refl).course id fun _ => id

theorem endRun_course (c : Fin 24) (s : State) : KeepsCourse s (endRun c s) := by
  simp only [endRun]
  refine .trans ?_ (captureTruncate_course c _)
  refine .trans ?_ (mapInsts_course _ _)
  exact modChannel_course c _ fun _ => .inl rfl

theorem adopt_course (c : Fin 24) (s : State) : KeepsCourse s (adopt c s) := by
  simp only [adopt]
  refine .trans ?_ (landingCheck_course _)
  refine .trans ?_ (recomputeWorst_course _ _)
  refine .trans ?_ (recomputeWorst_course _ _)
  refine .trans ?_ (mapInsts_course _ _)
  refine .trans ?_ (modChannel_course _ _ fun _ => .inr rfl)
  split
  · exact captureTruncate_course c s
  · exact .refl s

theorem adoptIfPending_course (c : Fin 24) (s : State) : KeepsCourse s (adoptIfPending c s) := by
  unfold adoptIfPending
  split
  · exact adopt_course c s
  · exact .refl s

theorem settleCheck_course (c : Fin 24) (s : State) : KeepsCourse s (settleCheck c s) := by
  unfold settleCheck
  split
  · simp only [startWindow]
    refine .trans ?_ (mapInsts_course _ _)
    exact modChannel_course c _ fun _ => .inl rfl
  · exact .refl s

theorem runLeft_course (c : Fin 24) (next : RunEnd) (marked : Bool) (s : State) : KeepsCourse s (runLeft c next marked s) := by
  unfold runLeft
  split
  · exact modChannel_course _ _ fun _ => .inl rfl
  · split
    · exact modChannel_course _ _ fun _ => .inl rfl
    · split
      · exact modChannel_course _ _ fun _ => .inl rfl
      · refine .trans ?_ (settleCheck_course _ _)
        exact modChannel_course _ _ fun _ => .inl rfl

theorem leaveRun_course (c : Fin 24) (next : RunEnd) (s : State) : KeepsCourse s (leaveRun c next s) := by
  rw [leaveRun_eq]
  exact (((endRun_course c s).trans (adoptIfPending_course c _)).trans (runLeft_course c next _ _)).trans (suspendCheck_course _)

theorem bindCheck_course (c : Fin 24) (s : State) : KeepsCourse s (bindCheck c s) := by
  unfold bindCheck
  split
  · split
    · split
      · exact modChannel_course _ _ fun _ => .inl rfl
      · exact modChannel_course _ _ fun _ => .inl rfl
    · exact .refl s
  · exact modChannel_course _ _ fun _ => .inl rfl

theorem adoptSettling_course (c : Fin 24) (s : State) : KeepsCourse s (adoptSettling c s) := by
  unfold adoptSettling
  extract_lets geometry u
  refine .trans (adopt_course c s) ?_
  change KeepsCourse u _
  split
  · refine .trans ?_ (settleCheck_course c _)
    split
    · exact modChannel_course _ _ fun _ => .inl rfl
    · exact .refl u
  · refine .trans ?_ (suspendCheck_course _)
    refine .trans (endRun_course c u) ?_
    exact modChannel_course _ _ fun _ => .inl rfl

theorem sourceChange_course (old : Tables) (c : Fin 24) (s : State) : KeepsCourse s (sourceChange old c s) := by
  simp only [sourceChange]
  split
  · split
    · exact leaveRun_course c _ s
    · exact modChannel_course _ _ fun _ => .inl rfl
  · split
    · exact .refl s
    · exact modChannel_course _ _ fun _ => .inl rfl
  · exact .refl s

theorem takeGeneration_course (c : Fin 24) (s : State) : KeepsCourse s (takeGeneration c s) := by
  unfold takeGeneration
  split
  · refine .trans ?_ (bindCheck_course c _)
    refine .trans ?_ (landingCheck_course _)
    exact modChannel_course _ _ fun _ => .inr rfl
  · split
    · exact .refl s
    · exact adoptSettling_course c s
    all_goals exact .trans (adopt_course c s) (bindCheck_course c _)

end

section
variable (s : State)

theorem generationsTaken_course : KeepsCourse (countsReset s) (generationsTaken s) :=
  forAll_keeps (KeepsCourse (countsReset s)) (fun c _ h => h.trans (takeGeneration_course c _)) _
    (forAll_keeps (KeepsCourse (countsReset s)) (fun c _ h => h.trans (sourceChange_course s.tables c _)) _ (.refl _))

theorem generationsTaken_landed : Landed (generationsTaken s) := by
  obtain ⟨hl, -, -, -⟩ := (turbinesApplied_moves s).analysis_stands id
  obtain ⟨-, -, h⟩ := generationsTaken_course s
  exact h (.inl hl)

theorem applyGridBinding_landing (old : Tables) (p : Fin 2) (s : State) : (applyGridBinding old p s).landing = s.landing := by
  unfold applyGridBinding
  extract_lets feed was is same
  split
  · exact suspendCheck_landing _
  · split
    · rfl
    · split
      · split
        · exact suspendCheck_landing _
        all_goals rfl
      · rfl

/-- The landing of an Apply lasts exactly while a channel is pending (R40). -/
theorem applyEffect_landing :
    (applyEffect s).landing = true ↔ ∃ c : Fin 24, (applyEffect s).channels[c].gen ≠ (applyEffect s).generation := by
  have hmaint : ∀ (g : Bool) (u : State), (applyMaintenance g u).landing = u.landing := fun g u => by
    obtain ⟨hl, -, -, -⟩ := (applyMaintenance_moves g u).analysis_stands id
    exact hl
  have hgrid : (blocksApplied s).landing = (entriesApplied s).landing :=
    forAll_keeps (fun u => u.landing = (entriesApplied s).landing)
      (fun p u h => (applyGridBinding_landing s.tables p u).trans h) _ rfl
  obtain ⟨hentries, -, -, -⟩ := (entriesApplied_moves s).analysis_stands id
  obtain ⟨hice, -, -, -⟩ := (iceApplied_moves s).analysis_stands id
  obtain ⟨hchannels, -⟩ := afterGenerations_run s
  have hgen : (generationsTaken s).generation = (s.generation + 1) % 65536 :=
    State.generation_of_shell (generationsTaken_shell s)
  rw [hchannels, applyEffect_generation, ← hgen, ← landingCheck_landing (generationsTaken_landed s), applyEffect_blocks,
    suspendCheck_landing, hmaint, hgrid, hentries, hice]

end

/-! ### Turbines and their windows (R2, R17) -/

section
variable {s : State} {old : Tables} {k : Fin 8}

/-- The turbine entry goes from valid to not valid. -/
def Tables.loses (old new : Tables) (k : Fin 8) : Bool := old.turbines[k].valid && !new.turbines[k].valid

/-- A turbine context after its entry took effect. -/
def Turbine.applied (old new : Tables) (k : Fin 8) (now : Nat) (x : Turbine) : Turbine :=
  serviceChange old.turbines[k] new.turbines[k] now (if old.loses new k then x.clearStatus else x)

theorem applyTurbine_of_loss (h : old.loses s.tables k = true) : applyTurbine old k s =
    (eachWindow k WindowContext.stale (s.modTurbine k Turbine.clearStatus)).modTurbine k
      (serviceChange old.turbines[k] s.tables.turbines[k] s.now) := by
  have h' : (old.turbines[k].valid && !s.tables.turbines[k].valid) = true := h
  simp only [applyTurbine, if_pos h']
  rfl

theorem applyTurbine_of_no_loss (h : old.loses s.tables k = false) :
    applyTurbine old k s = s.modTurbine k (serviceChange old.turbines[k] s.tables.turbines[k] s.now) := by
  have h' : (old.turbines[k].valid && !s.tables.turbines[k].valid) = false := h
  simp only [applyTurbine, h', Bool.false_eq_true, if_false]

theorem applyTurbine_turbines (old : Tables) (k : Fin 8) (s : State) :
    (applyTurbine old k s).turbines = upd s.turbines k (Turbine.applied old s.tables k s.now) := by
  cases h : old.loses s.tables k with
  | true =>
    rw [applyTurbine_of_loss h, State.modTurbine_turbines]
    change upd (upd s.turbines k Turbine.clearStatus) k _ = _
    rw [upd_upd]
    exact upd_congr (by rw [Turbine.applied, h]; rfl)
  | false =>
    rw [applyTurbine_of_no_loss h, State.modTurbine_turbines]
    exact upd_congr (by rw [Turbine.applied, h]; rfl)

theorem applyTurbine_insts (old : Tables) (k : Fin 8) (s : State) (i : Fin 96) : (applyTurbine old k s).insts[i] =
    if old.loses s.tables k = true ∧ s.turbineOf (instChannel i) = k then
      { s.insts[i] with window := s.insts[i].window.map WindowContext.stale } else s.insts[i] := by
  cases h : old.loses s.tables k with
  | true =>
    rw [applyTurbine_of_loss h, State.modTurbine_insts, eachWindow_insts]
    exact if_congr (and_iff_right rfl).symm rfl rfl
  | false =>
    rw [applyTurbine_of_no_loss h, State.modTurbine_insts, if_neg fun hl => absurd hl.1 Bool.false_ne_true]

theorem applyTurbine_channels (old : Tables) (k : Fin 8) (s : State) : (applyTurbine old k s).channels = s.channels :=
  (applyTurbine_moves (W := { Footprint.nothing with turbines := True, inst := fun _ => True }) old k trivial
    (fun _ _ => trivial) .refl).channels_eq fun _ => id

theorem applyTurbine_shell (old : Tables) (k : Fin 8) (s : State) : (applyTurbine old k s).shell = s.shell :=
  (applyTurbine_moves (W := .all) old k trivial (fun _ _ => trivial) .refl).shell

theorem turbinesApplied_turbine (s : State) (k : Fin 8) : (turbinesApplied s).turbines[k] =
    s.turbines[k].applied s.tables s.staged.tables k s.clock.counter := by
  obtain ⟨v, ⟨hv, hvs⟩, ⟨hk, -⟩⟩ := forAll_around (f := applyTurbine s.tables)
    (fun s t => t.turbines[k] = s.turbines[k] ∧ t.shell = s.shell) (fun _ => ⟨rfl, rfl⟩)
    (fun h h' => ⟨h'.1.trans h.1, h'.2.trans h.2⟩) k
    (fun j u hj => ⟨by rw [applyTurbine_turbines, upd_other _ _ _ _ (Ne.symm hj)], applyTurbine_shell _ _ _⟩) (landTables s)
  have hnow : v.now = s.clock.counter := by rw [State.now, State.clock_of_shell hvs]; rfl
  rw [turbinesApplied, hk, applyTurbine_turbines, upd_same, hv, State.tables_of_shell hvs, hnow]
  rfl

/-- Two states agree at instance `i` and in every channel, as far as the first names `u` as the turbine of `i`. -/
def SameWindow (i : Fin 96) (u : Fin 8) (s t : State) : Prop :=
  s.turbineOf (instChannel i) = u → t.insts[i] = s.insts[i] ∧ t.channels = s.channels ∧ t.shell = s.shell

theorem turbinesApplied_inst {u : Fin 8} (s : State) (i : Fin 96) (hu : u = s.channels[instChannel i].config.entry.turbine) :
    (turbinesApplied s).insts[i] =
      if s.tables.turbines[u].valid = true ∧ s.staged.tables.turbines[u].valid = false then
        { s.insts[i] with window := s.insts[i].window.map fun w => { w with fresh := false } } else s.insts[i] := by
  have htrans : ∀ {a b c : State}, SameWindow i u a b → SameWindow i u b c → SameWindow i u a c := by
    intro a b c h h' ha
    obtain ⟨hi, hc, hs⟩ := h ha
    have hb : b.turbineOf (instChannel i) = u := by simpa only [State.turbineOf, hc] using ha
    obtain ⟨hi', hc', hs'⟩ := h' hb
    exact ⟨hi'.trans hi, hc'.trans hc, hs'.trans hs⟩
  obtain ⟨v, hv, hk⟩ := forAll_around (f := applyTurbine s.tables) (SameWindow i u) (fun _ _ => ⟨rfl, rfl, rfl⟩) htrans u
    (fun j a hj ha => ⟨by rw [applyTurbine_insts, if_neg fun h => hj (h.2.symm.trans ha)], applyTurbine_channels _ _ _,
      applyTurbine_shell _ _ _⟩) (landTables s)
  obtain ⟨hvi, hvc, hvs⟩ := hv hu.symm
  have hvu : v.turbineOf (instChannel i) = u := by rw [hu, State.turbineOf, hvc]; rfl
  have hku : (applyTurbine s.tables u v).turbineOf (instChannel i) = u := by
    rw [State.turbineOf, applyTurbine_channels]
    exact hvu
  obtain ⟨hi, -, -⟩ := hk hku
  rw [turbinesApplied, hi, applyTurbine_insts, hvi, State.tables_of_shell hvs]
  refine if_congr ?_ rfl rfl
  rw [and_iff_left hvu, Tables.loses, Bool.and_eq_true, Bool.not_eq_true']
  rfl

/-! ### Ice records (R80, R81, R94) -/

/-- Two turbine contexts agree but for the worst level, which is computed anew. -/
def NearTurbine (x y : Turbine) : Prop := ({ y with worst := 0 } : Turbine) = { x with worst := 0 }

/-- An ice record after its entry took effect. -/
def IceRecord.applied (old new : IceEntry) (r : IceRecord) : IceRecord :=
  { r.clampCounts new with blades := tabulate 3 fun b => applyBlade old new b r.blades[b] }

theorem applyIce_of_invalid {o : IceEntry} (h : s.tables.ice[k].valid = false) : applyIce o k s = s := by
  simp only [applyIce, h, Bool.false_eq_true, if_false]

/-- The curtail request of an ICED turbine brought to its level, with its notice; any other state stands. -/
def levelApplied (k : Fin 8) (e : IceEntry) (s : State) : State :=
  if s.ice[k].state = .iced ∧ s.turbines[k].curtail ≠ curtailOf e.level .iced then
    iceNotice k .iced s.turbines[k].curtail .nothing .absent s.generation false (writeCurtail k (curtailOf e.level .iced) s)
  else s

theorem applyIce_of_valid {o : IceEntry} (h : s.tables.ice[k].valid = true) : applyIce o k s =
    (levelApplied k s.tables.ice[k] (s.modIce k fun r => r.clampCounts s.tables.ice[k])).modIce k fun r =>
      { r with blades := tabulate 3 fun b => applyBlade o s.tables.ice[k] b r.blades[b] } := by
  simp only [applyIce, if_pos h, levelApplied]
  split
  · rw [State.generation_of_shell (writeCurtail_shell _ _ _)]
  · rfl

theorem iceNotice_eq (k : Fin 8) (old : IceState) (oldCurtail : Curtail) (x : Subject) (v : NoticeValue) (gen : Nat)
    (mark : Bool) (s : State) :
    ∃ q e, iceNotice k old oldCurtail x v gen mark s = { s with notices := q, errors := e } := offer_eq _ _

theorem levelApplied_ice (k : Fin 8) (e : IceEntry) (s : State) : (levelApplied k e s).ice = s.ice := by
  unfold levelApplied
  split
  · exact (offer_ice _ _).trans (writeCurtail_ice _ _ _)
  · rfl

theorem applyIce_ice (o : IceEntry) (k : Fin 8) (s : State) : (applyIce o k s).ice[k] =
    if s.tables.ice[k].valid then s.ice[k].applied o s.tables.ice[k] else s.ice[k] := by
  cases h : s.tables.ice[k].valid with
  | false => rw [applyIce_of_invalid h]; rfl
  | true =>
    rw [applyIce_of_valid h, State.modIce_ice, levelApplied_ice, State.modIce_ice, upd_same, upd_same]
    rfl

/-- What an ice entry's effect does to its turbine: at most the curtail request and with it the advisory. -/
def LevelWritten (e : IceEntry) (st : IceState) (x y : Turbine) : Prop :=
  ({ y with curtail := x.curtail, advisory := x.advisory } : Turbine) = x ∧ (y.curtail = x.curtail → y = x) ∧
    (e.valid = false ∨ st ≠ .iced → y = x) ∧ (e.valid = true → st = .iced → y.curtail = curtailOf e.level .iced)

theorem levelApplied_turbine (k : Fin 8) (e : IceEntry) (s : State) (hv : e.valid = true) :
    LevelWritten e s.ice[k].state s.turbines[k] (levelApplied k e s).turbines[k] := by
  by_cases h : s.ice[k].state = .iced ∧ s.turbines[k].curtail ≠ curtailOf e.level .iced
  · have hdo : levelApplied k e s = _ := if_pos h
    obtain ⟨hst, hne⟩ := h
    obtain ⟨q, r, hnotice⟩ := iceNotice_eq k .iced s.turbines[k].curtail .nothing .absent s.generation false
      (writeCurtail k (curtailOf e.level .iced) s)
    obtain ⟨a, hwrite⟩ := writeCurtail_eq k (curtailOf e.level .iced) s
    have hturbine : (levelApplied k e s).turbines[k] =
        { s.turbines[k] with curtail := curtailOf e.level .iced, advisory := a } := by
      rw [hdo, hnotice, hwrite]
      exact upd_same _ _ _
    rw [hturbine]
    refine ⟨rfl, fun heq => absurd heq.symm hne, fun h => ?_, fun _ _ => rfl⟩
    rcases h with h | h
    · exact absurd (hv.symm.trans h) (by decide)
    · exact absurd hst h
  · rw [show levelApplied k e s = s from if_neg h]
    refine ⟨rfl, fun _ => rfl, fun _ => rfl, fun _ hst => ?_⟩
    by_contra hne
    exact h ⟨hst, hne⟩

theorem applyIce_turbine (o : IceEntry) (k : Fin 8) (s : State) :
    LevelWritten s.tables.ice[k] s.ice[k].state s.turbines[k] (applyIce o k s).turbines[k] := by
  cases h : s.tables.ice[k].valid with
  | false =>
    rw [applyIce_of_invalid h]
    exact ⟨rfl, fun _ => rfl, fun _ => rfl, fun hv => absurd (h.symm.trans hv) (by decide)⟩
  | true =>
    have hlevel := levelApplied_turbine k s.tables.ice[k] (s.modIce k fun r => r.clampCounts s.tables.ice[k]) h
    rw [State.modIce_ice, upd_same] at hlevel
    rw [applyIce_of_valid h]
    exact hlevel

end

end Sys2Proof.Machine
end

section
/-! PROOFS. An Apply seen from one turbine, one ice record and one grid point (R17, R80, R81, R94, R106, R107), and the
statement on the blocks it reaches. -/

namespace Sys2Proof.Machine

/-! ### One turbine and its ice record -/

section
variable {s : State}

theorem NearTurbine.trans {x y z : Turbine} (h : NearTurbine x y) (h' : NearTurbine y z) : NearTurbine x z := Eq.trans h' h

/-- An Apply seen from turbine `k`: its ice entry takes effect in a state that agrees there with the one before. -/
theorem applyEffect_turbine (s : State) (k : Fin 8) : ∃ v : State, v.ice[k] = s.ice[k] ∧ v.tables = s.staged.tables ∧
    NearTurbine (s.turbines[k].applied s.tables s.staged.tables k s.clock.counter) v.turbines[k] ∧
    (applyEffect s).ice[k] = (applyIce s.tables.ice[k] k v).ice[k] ∧
    NearTurbine (applyIce s.tables.ice[k] k v).turbines[k] (applyEffect s).turbines[k] := by
  have hlanding := landingCheck_moves (W := { Footprint.nothing with analysis := True }) (s := generationsTaken s) trivial .refl
  obtain ⟨v, ⟨hvi, hvt, hvs⟩, hwi, hwt, -⟩ := forAll_around (f := fun k => applyIce s.tables.ice[k] k)
    (fun s t => t.ice[k] = s.ice[k] ∧ NearTurbine s.turbines[k] t.turbines[k] ∧ t.shell = s.shell)
    (fun _ => ⟨rfl, rfl, rfl⟩) (fun h h' => ⟨h'.1.trans h.1, h.2.1.trans h'.2.1, h'.2.2.trans h.2.2⟩) k
    (fun j u hj => by
      have hm := applyIce_moves (W := { Footprint.nothing with ice := (· = j) }) s.tables.ice[j] j rfl (s := u) .refl
      exact ⟨hm.ice_stands (Ne.symm hj), hm.turbine_stands id (Ne.symm hj), hm.shell⟩) (landingCheck (generationsTaken s))
  refine ⟨v, ?_, ?_, ?_, ?_, ?_⟩
  · rw [hvi, hlanding.ice_stands id, (generationsTaken_moves s).ice_stands id, (sourcesApplied_moves s).ice_stands id]
    exact (turbinesApplied_moves s).ice_stands id
  · rw [State.tables_of_shell hvs, State.tables_of_shell (landingCheck_shell _),
      State.tables_of_shell (generationsTaken_shell s)]
    rfl
  · have hsources : NearTurbine (turbinesApplied s).turbines[k] (sourcesApplied s).turbines[k] :=
      (sourcesApplied_moves s).turbine_stands id id
    have hgenerations : NearTurbine (sourcesApplied s).turbines[k] (generationsTaken s).turbines[k] :=
      (generationsTaken_moves s).turbine_stands id id
    have hland : NearTurbine (generationsTaken s).turbines[k] (landingCheck (generationsTaken s)).turbines[k] :=
      hlanding.turbine_stands id id
    rw [← turbinesApplied_turbine]
    exact ((hsources.trans hgenerations).trans hland).trans hvt
  · rw [(applyEffect_moves s).ice_stands id]
    change (blocksApplied s).ice[k] = _
    rw [(bindingsApplied_moves s).ice_stands id, (entriesApplied_moves s).ice_stands id]
    exact hwi
  · have hlast : NearTurbine (loadedState (blocksApplied s)).turbines[k] (applyEffect s).turbines[k] :=
      (applyEffect_moves s).turbine_stands id id
    have hbindings : NearTurbine (entriesApplied s).turbines[k] (loadedState (blocksApplied s)).turbines[k] :=
      (bindingsApplied_moves s).turbine_stands id id
    have hentries : NearTurbine (iceApplied s).turbines[k] (entriesApplied s).turbines[k] :=
      (entriesApplied_moves s).turbine_stands id id
    exact ((hwt.trans hentries).trans hbindings).trans hlast

theorem NearTurbine.curtail {x y : Turbine} (h : NearTurbine x y) : y.curtail = x.curtail := by
  have hc := congrArg Turbine.curtail h
  exact hc

theorem NearTurbine.advisory {x y : Turbine} (h : NearTurbine x y) : y.advisory = x.advisory := by
  have hc := congrArg Turbine.advisory h
  exact hc

theorem NearTurbine.status {x y : Turbine} (h : NearTurbine x y) : y.freshness = x.freshness ∧ y.status = x.status ∧
    y.lastStatus = x.lastStatus ∧ y.freshExpiry = x.freshExpiry := by
  have hf := congrArg Turbine.freshness h
  have hs := congrArg Turbine.status h
  have hl := congrArg Turbine.lastStatus h
  have he := congrArg Turbine.freshExpiry h
  exact ⟨hf, hs, hl, he⟩

theorem LevelWritten.status {e : IceEntry} {st : IceState} {x y : Turbine} (h : LevelWritten e st x y) :
    y.freshness = x.freshness ∧ y.status = x.status ∧ y.lastStatus = x.lastStatus ∧ y.freshExpiry = x.freshExpiry := by
  obtain ⟨heq, -⟩ := h
  have hf := congrArg Turbine.freshness heq
  have hs := congrArg Turbine.status heq
  have hl := congrArg Turbine.lastStatus heq
  have he := congrArg Turbine.freshExpiry heq
  exact ⟨hf, hs, hl, he⟩

/-- What an Apply leaves in a turbine beside the worst level, in terms of the turbine's own entry's effect. -/
theorem applyEffect_turbine_fields (s : State) (k : Fin 8) {x z : Turbine}
    (hx : x = s.turbines[k].applied s.tables s.staged.tables k s.clock.counter) (hz : z = (applyEffect s).turbines[k]) :
    (z.freshness = x.freshness ∧ z.status = x.status ∧ z.lastStatus = x.lastStatus ∧ z.freshExpiry = x.freshExpiry) ∧
    (s.staged.tables.ice[k].valid = false ∨ s.ice[k].state ≠ .iced → z.curtail = x.curtail) ∧
    (s.staged.tables.ice[k].valid = true → s.ice[k].state = .iced →
      z.curtail = curtailOf s.staged.tables.ice[k].level .iced) ∧
    (z.curtail = x.curtail → z.advisory = x.advisory) := by
  obtain ⟨v, hvi, hvt, hnear, -, hlast⟩ := applyEffect_turbine s k
  have hwritten := applyIce_turbine s.tables.ice[k] k v
  rw [hvi, hvt] at hwritten
  rw [← hx] at hnear
  rw [← hz] at hlast
  obtain ⟨hf, hs, hl, he⟩ := hnear.status
  obtain ⟨hf', hs', hl', he'⟩ := hwritten.status
  obtain ⟨hf'', hs'', hl'', he''⟩ := hlast.status
  obtain ⟨-, hsame, hnone, hiced⟩ := hwritten
  refine ⟨⟨hf''.trans (hf'.trans hf), hs''.trans (hs'.trans hs), hl''.trans (hl'.trans hl), he''.trans (he'.trans he)⟩,
    fun h => ?_, fun hv hst => hlast.curtail.trans (hiced hv hst), fun h => ?_⟩
  · rw [hlast.curtail, hnone h]
    exact hnear.curtail
  · rw [hlast.curtail, ← hnear.curtail] at h
    rw [hlast.advisory, hsame h]
    exact hnear.advisory

theorem serviceChange_status (a b : TurbineEntry) (now : Nat) (x : Turbine) :
    serviceChange a b now x = { x with advisory := (serviceChange a b now x).advisory } := by
  unfold serviceChange
  split
  · rfl
  · split <;> rfl

theorem Turbine.applied_of_loss {o n : Tables} {k : Fin 8} (ho : o.turbines[k].valid = true)
    (hn : n.turbines[k].valid = false) (now : Nat) (x : Turbine) :
    x.applied o n k now = serviceChange o.turbines[k] n.turbines[k] now x.clearStatus := by
  simp only [Turbine.applied, Tables.loses, ho, hn, Bool.not_false, Bool.and_self, if_true]

theorem Turbine.applied_of_no_loss {o n : Tables} {k : Fin 8}
    (h : o.turbines[k].valid = false ∨ n.turbines[k].valid = true) (now : Nat) (x : Turbine) :
    x.applied o n k now = serviceChange o.turbines[k] n.turbines[k] now x := by
  have hloses : o.loses n k = false := by
    rcases h with h | h
    · simp only [Tables.loses, h, Bool.false_and]
    · simp only [Tables.loses, h, Bool.not_true, Bool.and_false]
  simp only [Turbine.applied, hloses, Bool.false_eq_true, if_false]

/-- Clearing the status reaches neither curtail request nor advisory. -/
theorem Turbine.applied_service {o n : Tables} {k : Fin 8} (now : Nat) (x : Turbine) :
    (x.applied o n k now).curtail = x.curtail ∧
      (x.applied o n k now).advisory = (serviceChange o.turbines[k] n.turbines[k] now x).advisory := by
  have hclear : (serviceChange o.turbines[k] n.turbines[k] now x.clearStatus).advisory =
      (serviceChange o.turbines[k] n.turbines[k] now x).advisory := by
    unfold serviceChange
    split
    · rfl
    · split <;> rfl
  unfold Turbine.applied
  split
  · rw [serviceChange_status]
    exact ⟨rfl, hclear⟩
  · exact ⟨by rw [serviceChange_status], rfl⟩

theorem serviceChange_leave {a b : TurbineEntry} (ha : a.inService = true) (hb : b.inService = false) (now : Nat)
    (x : Turbine) : (serviceChange a b now x).advisory = x.advisory.leaveService := by
  simp only [serviceChange, ha, hb, Bool.not_false, Bool.and_self, if_true]

theorem serviceChange_enter {a b : TurbineEntry} (ha : a.inService = false) (hb : b.inService = true) (now : Nat)
    (x : Turbine) : (serviceChange a b now x).advisory = x.advisory.enterService x.curtail now := by
  simp only [serviceChange, ha, hb, Bool.not_true, Bool.not_false, Bool.and_self, Bool.false_eq_true, if_false, if_true]

theorem serviceChange_same {a b : TurbineEntry} {x : Turbine}
    (h : a.inService = b.inService ∨ b.inService = true ∧ x.curtail = .none) (now : Nat) :
    (serviceChange a b now x).advisory = x.advisory := by
  cases ha : a.inService with
  | true =>
    cases hb : b.inService with
    | true => simp [serviceChange, ha, hb]
    | false =>
      rcases h with h | h
      · rw [ha, hb] at h; cases h
      · rw [hb] at h; cases h.1
  | false =>
    cases hb : b.inService with
    | true =>
      rcases h with h | h
      · rw [ha, hb] at h; cases h
      · exact (serviceChange_enter ha hb now x).trans (if_pos h.2)
    | false => simp [serviceChange, ha, hb]

end

/-! ### One grid point (R106, R107) -/

section
variable {s : State} {p : Fin 2} {old : Tables}

/-- A grid point after its entry took effect. -/
def GridPoint.entered (old new : GridEntry) (x : GridPoint) : GridPoint :=
  if old.valid && !new.valid then { x with alarm := .normal, raiseCount := 0, clearCount := 0, sync := .none }
  else if !old.valid && new.valid then { x with alarm := .normal, raiseCount := 0, clearCount := 0 }
  else if old.valid && new.valid && (decide (old.persistence ≠ new.persistence) || decide (old.clear ≠ new.clear)) then
    { x with raiseCount := 0, clearCount := 0 }
  else x

theorem applyGridEntry_point (o : GridEntry) (p : Fin 2) (s : State) :
    (applyGridEntry o p s).points[p] = s.points[p].entered o s.tables.grid[p] := by
  cases ho : o.valid <;> cases hn : s.tables.grid[p].valid
  · have hdo : applyGridEntry o p s = s := by
      simp only [applyGridEntry, ho, hn, Bool.false_and, Bool.and_false, Bool.false_eq_true, if_false]
    rw [hdo]
    simp only [GridPoint.entered, ho, hn, Bool.false_and, Bool.and_false, Bool.false_eq_true, if_false]
  · have hdo : applyGridEntry o p s =
        s.modPoint p fun x => { x with alarm := .normal, raiseCount := 0, clearCount := 0 } := by
      simp only [applyGridEntry, ho, hn, Bool.not_true, Bool.false_eq_true, if_false, Bool.not_false, Bool.and_self,
        if_true]
    rw [hdo, modPoint_same]
    simp only [GridPoint.entered, ho, hn, Bool.not_true, Bool.false_eq_true, if_false, Bool.not_false, Bool.and_self,
      if_true]
  · have hentered : s.points[p].entered o s.tables.grid[p] =
        { s.points[p] with alarm := .normal, raiseCount := 0, clearCount := 0, sync := .none } := by
      simp only [GridPoint.entered, ho, hn, Bool.not_false, Bool.and_self, if_true]
    rw [hentered]
    by_cases ha : s.points[p].alarm = .alarm
    · have hdo : applyGridEntry o p s = gridAlarmNotice p .alarm .normal .absent s.generation (s.modPoint p fun x =>
          { x with alarm := .normal, raiseCount := 0, clearCount := 0, sync := .none }) := by
        simp only [applyGridEntry, ho, hn, Bool.not_false, Bool.and_self, if_true, if_pos ha] <;> rfl
      rw [hdo, show ∀ v g (u : State), (gridAlarmNotice p .alarm .normal v g u).points = u.points from
        fun _ _ _ => offer_points _ _, modPoint_same]
    · have hdo : applyGridEntry o p s = s.modPoint p fun x =>
          { x with alarm := .normal, raiseCount := 0, clearCount := 0, sync := .none } := by
        simp only [applyGridEntry, ho, hn, Bool.not_false, Bool.and_self, if_true, if_neg ha]
      rw [hdo, modPoint_same]
  · by_cases hd : (decide (o.persistence ≠ s.tables.grid[p].persistence) || decide (o.clear ≠ s.tables.grid[p].clear)) = true
    · have hdo : applyGridEntry o p s = s.modPoint p fun x => { x with raiseCount := 0, clearCount := 0 } := by
        simp only [applyGridEntry, ho, hn, Bool.not_true, Bool.and_false, Bool.false_and, Bool.false_eq_true, if_false,
          Bool.and_self, Bool.true_and, if_pos hd]
      rw [hdo, modPoint_same]
      simp only [GridPoint.entered, ho, hn, Bool.not_true, Bool.and_false, Bool.false_and, Bool.false_eq_true, if_false,
        Bool.and_self, Bool.true_and, if_pos hd]
    · have hdo : applyGridEntry o p s = s := by
        simp only [applyGridEntry, ho, hn, Bool.not_true, Bool.and_false, Bool.false_and, Bool.false_eq_true, if_false,
          Bool.and_self, Bool.true_and, if_neg hd]
      rw [hdo]
      simp only [GridPoint.entered, ho, hn, Bool.not_true, Bool.and_false, Bool.false_and, Bool.false_eq_true, if_false,
        Bool.and_self, Bool.true_and, if_neg hd]

/-- The entry's effect reaches the alarm record and the sync condition alone. -/
theorem GridPoint.entered_eq (o n : GridEntry) (x : GridPoint) : x.entered o n = { x with
    alarm := (x.entered o n).alarm, raiseCount := (x.entered o n).raiseCount, clearCount := (x.entered o n).clearCount
    sync := (x.entered o n).sync } := by
  unfold GridPoint.entered
  split
  · rfl
  · split
    · rfl
    · split <;> rfl

theorem GridPoint.entered_lost {o n : GridEntry} (ho : o.valid = true) (hn : n.valid = false) (x : GridPoint) :
    x.entered o n = { x with alarm := .normal, raiseCount := 0, clearCount := 0, sync := .none } := by
  simp only [GridPoint.entered, ho, hn, Bool.not_false, Bool.and_self, if_true]

theorem GridPoint.entered_gained {o n : GridEntry} (ho : o.valid = false) (hn : n.valid = true) (x : GridPoint) :
    x.entered o n = { x with alarm := .normal, raiseCount := 0, clearCount := 0 } := by
  simp only [GridPoint.entered, ho, hn, Bool.not_true, Bool.not_false, Bool.and_self, Bool.false_eq_true, if_false, if_true]

theorem GridPoint.entered_kept {o n : GridEntry} (h : o.valid = n.valid) (x : GridPoint) : x.entered o n =
    if n.valid = true ∧ (o.persistence ≠ n.persistence ∨ o.clear ≠ n.clear) then { x with raiseCount := 0, clearCount := 0 }
    else x := by
  cases hn : n.valid <;> simp [GridPoint.entered, h, hn]

/-- A point whose binding or source changed (R107). -/
theorem applyGridBinding_lost (hwas : old.pointBound p = true) (his : s.tables.pointBound p = false) :
    (applyGridBinding old p s).points[p] = s.points[p].rest .unbound := by
  have hdo : applyGridBinding old p s = suspendCheck (s.modPoint p (GridPoint.rest .unbound)) := by
    unfold applyGridBinding
    extract_lets feed was is same
    exact if_pos (by rw [show was = true from hwas, show is = false from his]; rfl)
  rw [hdo, suspendCheck_points, modPoint_same]

theorem applyGridBinding_gained (hwas : old.pointBound p = false) (his : s.tables.pointBound p = true) :
    (applyGridBinding old p s).points[p] = s.points[p].rest (if s.analysis = .active then .idle else .suspended) := by
  have hdo : applyGridBinding old p s =
      s.modPoint p (GridPoint.rest (if s.analysis = .active then .idle else .suspended)) := by
    unfold applyGridBinding
    extract_lets feed was is same
    have hw : was = false := hwas
    have hi : is = true := his
    rw [hw, hi]
    rfl
  rw [hdo, modPoint_same]

theorem applyGridBinding_same {a : Fin 64} (hwas : old.pointBound p = true) (his : s.tables.pointBound p = true)
    (ho : old.sourceOf (.gridPoint p) = some a) (hn : s.tables.sourceOf (.gridPoint p) = some a)
    (hsame : old.streams[a] = s.tables.streams[a]) : applyGridBinding old p s = s := by
  unfold applyGridBinding
  simp only [hwas, his, ho, hn, hsame, decide_true, Bool.and_self, Bool.not_true, Bool.and_false, Bool.false_and,
    Bool.false_eq_true, if_false]

theorem applyGridBinding_moved {a b : Fin 64} (hwas : old.pointBound p = true) (his : s.tables.pointBound p = true)
    (ho : old.sourceOf (.gridPoint p) = some a) (hn : s.tables.sourceOf (.gridPoint p) = some b)
    (hother : a ≠ b ∨ old.streams[a] ≠ s.tables.streams[b]) : (applyGridBinding old p s).points[p].expect = none ∧
      (applyGridBinding old p s).points[p].intake =
        if s.points[p].intake = .assembling then .idle else s.points[p].intake := by
  have hsame : (decide (a = b) && decide (old.streams[a] = s.tables.streams[b])) = false := by
    rw [Bool.and_eq_false_iff, decide_eq_false_iff_not, decide_eq_false_iff_not]
    exact hother
  have hdo : applyGridBinding old p s = match s.points[p].intake with
      | .assembling => suspendCheck (s.modPoint p (GridPoint.rest .idle))
      | .unbound | .idle | .suspended => s.modPoint p fun x => { x with expect := none } := by
    unfold applyGridBinding
    simp only [hwas, his, ho, hn, hsame, Bool.and_self, Bool.not_true, Bool.and_false, Bool.false_and, Bool.not_false,
      Bool.false_eq_true, if_false, if_true] <;> rfl
  cases hin : s.points[p].intake with
  | assembling =>
    have hpoint : (applyGridBinding old p s).points[p] = s.points[p].rest .idle := by
      rw [hdo, hin]
      change (suspendCheck _).points[p] = _
      rw [suspendCheck_points, modPoint_same]
    rw [hpoint]
    exact ⟨rfl, rfl⟩
  | _ =>
    have hpoint : (applyGridBinding old p s).points[p] = { s.points[p] with expect := none } := by
      rw [hdo, hin]
      exact modPoint_same s p _
    rw [hpoint]
    exact ⟨rfl, hin⟩

theorem applyGridBinding_active (old : Tables) (p : Fin 2) (s : State) :
    (applyGridBinding old p s).analysis = .active ↔ s.analysis = .active := by
  unfold applyGridBinding
  extract_lets feed was is same
  split
  · exact suspendCheck_active _
  · split
    · rfl
    · split
      · split
        · exact suspendCheck_active _
        all_goals rfl
      · rfl

theorem entriesApplied_active (s : State) : (entriesApplied s).analysis = .active ↔ s.analysis = .active := by
  obtain ⟨-, hturbines, -, -⟩ := (turbinesApplied_moves s).analysis_stands id
  obtain ⟨hgenerations, -, -⟩ := generationsTaken_course s
  obtain ⟨hlanding, -, -⟩ := landingCheck_reports (generationsTaken s)
  obtain ⟨-, hice, -, -⟩ := (iceApplied_moves s).analysis_stands id
  obtain ⟨-, hentries, -, -⟩ := (entriesApplied_moves s).analysis_stands id
  rw [hentries, hice, hlanding, hgenerations]
  exact iff_of_eq (congrArg (· = AnalysisState.active) hturbines)

/-- An Apply seen from point `p`: its entry, then its binding, in states that agree there with the one before. -/
theorem applyEffect_point (s : State) (p : Fin 2) : ∃ w : State,
    w.points[p] = s.points[p].entered s.tables.grid[p] s.staged.tables.grid[p] ∧ w.tables = s.staged.tables ∧
    (w.analysis = .active ↔ s.analysis = .active) ∧
    (applyEffect s).points[p] = (applyGridBinding s.tables p w).points[p] := by
  have hice : (iceApplied s).points = s.points := by
    rw [(iceApplied_moves s).points_eq fun _ => id]
    have hland := landingCheck_moves (W := { Footprint.nothing with analysis := True }) (s := generationsTaken s) trivial .refl
    rw [hland.points_eq fun _ => id, (generationsTaken_moves s).points_eq fun _ => id,
      (sourcesApplied_moves s).points_eq fun _ => id]
    exact (turbinesApplied_moves s).points_eq fun _ => id
  have hiceShell : (iceApplied s).shell = (landTables s).shell :=
    (iceApplied_moves s).shell.trans ((landingCheck_shell _).trans (generationsTaken_shell s))
  obtain ⟨v, ⟨hv, hvs⟩, hfirst, -⟩ := forAll_point
    (fun q u => applyGridEntry_moves (W := { Footprint.nothing with point := (· = q), analysis := True }) s.tables.grid[q] q rfl
      (s := u) .refl) p (iceApplied s)
  obtain ⟨w, ⟨hw, hws, hwa⟩, hsecond, -⟩ := forAll_around (f := applyGridBinding s.tables)
    (fun s t => t.points[p] = s.points[p] ∧ t.shell = s.shell ∧ (t.analysis = .active ↔ s.analysis = .active))
    (fun _ => ⟨rfl, rfl, .rfl⟩) (fun h h' => ⟨h'.1.trans h.1, h'.2.1.trans h.2.1, h'.2.2.trans h.2.2⟩) p
    (fun q u hq => by
      have hm := applyGridBinding_moves (W := { Footprint.nothing with point := (· = q), analysis := True }) s.tables q rfl
        trivial (s := u) .refl
      exact ⟨hm.point_stands (Ne.symm hq), hm.shell, applyGridBinding_active s.tables q u⟩) (entriesApplied s)
  have hvt : v.tables = s.staged.tables := by rw [State.tables_of_shell (hvs.trans hiceShell)]; rfl
  refine ⟨w, ?_, ?_, hwa.trans (entriesApplied_active s), ?_⟩
  · rw [hw, entriesApplied, hfirst, applyGridEntry_point, hv, hvt, hice]
  · rw [State.tables_of_shell (hws.trans ((entriesApplied_moves s).shell.trans hiceShell))]
    rfl
  · rw [(applyEffect_moves s).point_stands id]
    exact hsecond

/-! ### What the arbiters leave of an advisory mechanism -/

/-- A mechanism before and after the arbiters: it stands, or its PENDING value is in transmission. -/
def Begun (a b : Advisory) : Prop := b = a ∨ ∃ v since, a = .pending v since ∧ b = .sending v

theorem Begun.stands {a b : Advisory} (h : Begun a b) (ha : a.waiting = none) : b = a := by
  rcases h with heq | ⟨v, since, hp, -⟩
  · exact heq
  · rw [hp] at ha; cases ha

theorem Begun.pending {b : Advisory} {v : Curtail} {since : Nat} (h : Begun (.pending v since) b) :
    b = .pending v since ∨ b = .sending v := by
  rcases h with heq | ⟨v', since', hp, hs⟩
  · exact .inl heq
  · cases hp; exact .inr hs

theorem Advisory.leaveService_waiting (a : Advisory) : a.leaveService.waiting = none := by
  cases a <;> rfl

/-! ### The statement's clauses on turbines, ice records and grid points -/

/-- The advisory mechanism of a turbine whose curtail request stood (R17). -/
theorem advisory_applied {a b : TurbineEntry} {now : Nat} {x : Turbine} {y : Advisory}
    (h : Begun (serviceChange a b now x).advisory y) :
    (a.inService = true → b.inService = false → y = x.advisory.leaveService) ∧
    (a.inService = false → b.inService = true → x.curtail ≠ .none →
      (x.advisory = .quiet → y = .pending x.curtail now ∨ y = .sending x.curtail) ∧
      ∀ v, x.advisory = .sending v → y = .sendingPending v x.curtail now) ∧
    (a.inService = b.inService ∨ b.inService = true ∧ x.curtail = .none → Begun x.advisory y) := by
  refine ⟨fun ha hb => ?_, fun ha hb hc => ?_, fun hsame => ?_⟩
  · rw [serviceChange_leave ha hb] at h
    exact h.stands x.advisory.leaveService_waiting
  · rw [serviceChange_enter ha hb] at h
    refine ⟨fun hq => ?_, fun v hv => ?_⟩
    · rw [hq, show Advisory.enterService x.curtail now .quiet = .pending x.curtail now from if_neg hc] at h
      exact h.pending
    · rw [hv, show Advisory.enterService x.curtail now (.sending v) = .sendingPending v x.curtail now from if_neg hc] at h
      exact h.stands rfl
  · rwa [serviceChange_same hsame] at h

/-- One blade of a valid ice entry (R81). -/
theorem applyBlade_cases (o n : IceEntry) (b : Fin 3) (x : Blade) :
    (n.track[b.1]? = none → applyBlade o n b x = ⟨0, .none, none⟩) ∧
    ∀ i, n.track[b.1]? = some i →
      (∀ v, n.load[b] = some v → applyBlade o n b x = ⟨v, .loaded, if o.track[b.1]? = some i then x.lastC else none⟩) ∧
      (n.load[b] = none → o.track[b.1]? ≠ some i → applyBlade o n b x = ⟨0, .none, none⟩) ∧
      (n.load[b] = none → o.track[b.1]? = some i →
        applyBlade o n b x = if x.status = .loaded then ⟨0, .none, x.lastC⟩ else x) := by
  refine ⟨fun hn => by simp only [applyBlade, hn], fun i hi => ⟨fun v hv => ?_, fun hl ho => ?_, fun hl ho => ?_⟩⟩
  · by_cases ho : o.track[b.1]? = some i
    · simp only [applyBlade, hi, hv, ho, ne_eq, not_true_eq_false, decide_false, Bool.false_eq_true, if_false, if_true]
    · simp only [applyBlade, hi, hv, ho, ne_eq, not_false_eq_true, decide_true, if_true, if_false]
  · simp only [applyBlade, hi, hl, ho, ne_eq, not_false_eq_true, decide_true, if_true]
  · simp only [applyBlade, hi, hl, ho, ne_eq, not_true_eq_false, decide_false, Bool.false_eq_true, if_false]

theorem IceRecord.applied_blade (o n : IceEntry) (x : IceRecord) (b : Fin 3) :
    (x.applied o n).blades[b] = applyBlade o n b x.blades[b] := tabulate_get 3 _ b

/-- An ice record after an Apply. -/
theorem applyEffect_ice (s : State) (k : Fin 8) : (applyEffect s).ice[k] =
    if s.staged.tables.ice[k].valid then s.ice[k].applied s.tables.ice[k] s.staged.tables.ice[k] else s.ice[k] := by
  obtain ⟨v, hvi, hvt, -, hice, -⟩ := applyEffect_turbine s k
  rw [hice, applyIce_ice, hvi, hvt]

/-- A point's alarm record, sync condition and last result stand. -/
def SameRecord (x y : GridPoint) : Prop := y.lastResult = x.lastResult ∧ y.alarm = x.alarm ∧ y.sync = x.sync ∧
  y.raiseCount = x.raiseCount ∧ y.clearCount = x.clearCount

/-- The binding's effect leaves the alarm record, the sync condition and the last result. -/
theorem applyGridBinding_record (old : Tables) (p : Fin 2) (s : State) :
    SameRecord s.points[p] (applyGridBinding old p s).points[p] := by
  have hwrite : ∃ f : GridPoint → GridPoint, (∀ x, SameRecord x (f x)) ∧
      (applyGridBinding old p s).points = upd s.points p f := by
    have hstands : ∃ f : GridPoint → GridPoint, (∀ x, SameRecord x (f x)) ∧ s.points = upd s.points p f :=
      ⟨id, fun _ => ⟨rfl, rfl, rfl, rfl, rfl⟩, (upd_id rfl).symm⟩
    have hrest : ∀ (st : Intake) (x : GridPoint), SameRecord x (x.rest st) := fun _ _ => ⟨rfl, rfl, rfl, rfl, rfl⟩
    have hforget : ∀ x : GridPoint, SameRecord x { x with expect := none } := fun _ => ⟨rfl, rfl, rfl, rfl, rfl⟩
    unfold applyGridBinding
    extract_lets feed was is same
    split
    · exact ⟨_, hrest .unbound, suspendCheck_points _⟩
    · split
      · exact ⟨_, hrest _, rfl⟩
      · split
        · split
          · exact ⟨_, hrest .idle, suspendCheck_points _⟩
          all_goals exact ⟨_, hforget, rfl⟩
        · exact hstands
  obtain ⟨f, hf, heq⟩ := hwrite
  have hp : (applyGridBinding old p s).points[p] = f s.points[p] := by rw [heq, upd_same]
  rw [hp]
  exact hf _

end

section
variable {s : State} {y : Turbine}

/-- The clauses on turbine `k`, `y` being what the arbiters leave of it. -/
theorem turbine_applied {k : Fin 8} (hy : y = { (applyEffect s).turbines[k] with advisory := y.advisory })
    (hbegun : Begun (applyEffect s).turbines[k].advisory y.advisory) :
    (s.tables.turbines[k].valid = true → s.staged.tables.turbines[k].valid = false →
      y.freshness = .none ∧ y.status = ⟨.stopped, 0, 0, 0, 0, 0⟩ ∧ y.lastStatus = 0) ∧
    (s.tables.turbines[k].valid = false ∨ s.staged.tables.turbines[k].valid = true →
      y.freshness = s.turbines[k].freshness ∧ y.status = s.turbines[k].status ∧
      y.lastStatus = s.turbines[k].lastStatus ∧ y.freshExpiry = s.turbines[k].freshExpiry) ∧
    (s.staged.tables.ice[k].valid = false ∨ s.ice[k].state ≠ .iced → y.curtail = s.turbines[k].curtail) ∧
    (s.staged.tables.ice[k].valid = true → s.ice[k].state = .iced →
      y.curtail = curtailOf s.staged.tables.ice[k].level .iced) ∧
    (y.curtail = s.turbines[k].curtail → Begun
      (serviceChange s.tables.turbines[k] s.staged.tables.turbines[k] s.clock.counter s.turbines[k]).advisory y.advisory) := by
  obtain ⟨⟨hf, hs, hl, he⟩, hkept, hiced, hadv⟩ := applyEffect_turbine_fields s k rfl rfl
  obtain ⟨hcurtail, hservice⟩ := Turbine.applied_service (o := s.tables) (n := s.staged.tables) (k := k) s.clock.counter s.turbines[k]
  have hyf : y.freshness = (applyEffect s).turbines[k].freshness := by rw [hy]
  have hys : y.status = (applyEffect s).turbines[k].status := by rw [hy]
  have hyl : y.lastStatus = (applyEffect s).turbines[k].lastStatus := by rw [hy]
  have hye : y.freshExpiry = (applyEffect s).turbines[k].freshExpiry := by rw [hy]
  have hyc : y.curtail = (applyEffect s).turbines[k].curtail := by rw [hy]
  rw [← hyf] at hf
  rw [← hys] at hs
  rw [← hyl] at hl
  rw [← hye] at he
  rw [← hyc] at hkept hiced hadv
  refine ⟨fun ho hn => ?_, fun h => ?_, fun h => (hkept h).trans hcurtail, hiced, fun h => ?_⟩
  · rw [hf, hs, hl, Turbine.applied_of_loss ho hn, serviceChange_status]
    exact ⟨rfl, rfl, rfl⟩
  · rw [hf, hs, hl, he, Turbine.applied_of_no_loss h, serviceChange_status]
    exact ⟨rfl, rfl, rfl, rfl⟩
  · rwa [hadv (h.trans hcurtail.symm), hservice] at hbegun

/-- The clauses on the alarm record of a grid point (R106). -/
theorem point_entered {a b : GridEntry} {x y : GridPoint} (h : SameRecord (x.entered a b) y) :
    y.lastResult = x.lastResult ∧
    (a.valid = true → b.valid = false → y.alarm = .normal ∧ y.raiseCount = 0 ∧ y.clearCount = 0 ∧ y.sync = .none) ∧
    (a.valid = false → b.valid = true → y.alarm = .normal ∧ y.raiseCount = 0 ∧ y.clearCount = 0 ∧ y.sync = x.sync) ∧
    (a.valid = b.valid → y.alarm = x.alarm ∧ y.sync = x.sync ∧
      if b.valid = true ∧ (a.persistence ≠ b.persistence ∨ a.clear ≠ b.clear) then y.raiseCount = 0 ∧ y.clearCount = 0
      else y.raiseCount = x.raiseCount ∧ y.clearCount = x.clearCount) := by
  obtain ⟨hl, ha, hs, hr, hc⟩ := h
  refine ⟨?_, fun ho hn => ?_, fun ho hn => ?_, fun hsame => ?_⟩
  · rw [hl, GridPoint.entered_eq]
  · rw [ha, hs, hr, hc, GridPoint.entered_lost ho hn]
    exact ⟨rfl, rfl, rfl, rfl⟩
  · rw [ha, hs, hr, hc, GridPoint.entered_gained ho hn]
    exact ⟨rfl, rfl, rfl, rfl⟩
  · rw [GridPoint.entered_kept hsame] at ha hs hr hc
    by_cases hd : b.valid = true ∧ (a.persistence ≠ b.persistence ∨ a.clear ≠ b.clear)
    · rw [if_pos hd] at ha hs hr hc ⊢
      exact ⟨ha, hs, hr, hc⟩
    · rw [if_neg hd] at ha hs hr hc ⊢
      exact ⟨ha, hs, hr, hc⟩

end

/-- Settles O42: what an Apply that passes leaves in each block, read off its stages. -/
theorem applyReachesBlocks : Obligations.ApplyReachesBlocks := by
  intro rq o n s hready hargs hpass ho hn
  subst ho hn
  have hdone : carryOut ⟨0x14, rq⟩ s = (applyEffect s, .ok (u16 (applyEffect s).generation ++ yesNo (!(applyEffect s).landing))) :=
    applyRequest_passed hargs hpass
  generalize hu : applyEffect s = u at hdone
  have hclock : u.clock = s.clock := by
    rw [← hu]
    exact (State.clock_of_shell (applyEffect_shell s)).trans rfl
  have htake := takeRequest_eq_answered hdone hclock
  refine ⟨arbitrate (takeRequest ⟨0x14, rq⟩ s), request_live 0x14 rq hready, ?_⟩
  have hview := (arbitrate_hideFrames (takeRequest ⟨0x14, rq⟩ s)).trans (congrArg State.hideFrames htake)
  have hbegun : ∀ k : Fin 8, Begun u.turbines[k].advisory (arbitrate (takeRequest ⟨0x14, rq⟩ s)).turbines[k].advisory := by
    intro k
    have h := arbitrate_advisory (takeRequest ⟨0x14, rq⟩ s) k
    rw [show (takeRequest ⟨0x14, rq⟩ s).turbines = u.turbines by rw [htake]; rfl] at h
    exact h
  generalize arbitrate (takeRequest ⟨0x14, rq⟩ s) = t at hview hbegun
  have hchannels := State.channels_of_answered hview
  have hinsts := State.insts_of_answered hview
  have hgen := State.generation_of_answered hview
  refine ⟨fun e => ?_, ?_, fun c hc => ?_, fun c hc hnone => ?_, fun c a b hrun hbound ha hb => ⟨?_, fun i u' hi hu' => ?_⟩,
    fun k x y hx hy => ?_, fun k x hx => ?_, fun p x y hx hy => ?_⟩
  · rw [State.counts_of_answered hview, ← hu]
    exact applyEffect_counts s e
  · rw [State.landing_of_answered hview, hchannels, hgen, ← hu]
    exact applyEffect_landing s
  · rw [hchannels, hgen, ← hu]
    exact applyEffect_not_running hc
  · obtain ⟨a, ha⟩ := Option.isSome_iff_exists.mp hc
    rw [hchannels, hgen, ← hu]
    exact applyEffect_unbound ha hnone
  · rw [hchannels, hgen, ← hu]
    exact (applyEffect_running hrun hbound ha hb).1
  · rw [hinsts, ← hu, (applyEffect_running hrun hbound ha hb).2 i hi]
    subst hi
    exact turbinesApplied_inst s i hu'
  · have hturbine := State.turbine_of_answered hview k
    have hbegun := hbegun k
    rw [← hy] at hturbine hbegun
    rw [← hu] at hturbine hbegun
    obtain ⟨hloss, hkept, hcurtail, -, hadv⟩ := turbine_applied hturbine hbegun
    rw [← hx] at hkept hcurtail hadv
    refine ⟨hloss, hkept, hcurtail, fun hstands => ?_⟩
    obtain ⟨hleave, henter, hsame⟩ := advisory_applied (hadv hstands)
    refine ⟨fun ha hb => (hleave ha hb).trans ?_, henter, hsame⟩
    cases x.advisory <;> rfl
  · have hice : t.ice[k] = if s.staged.tables.ice[k].valid then
        s.ice[k].applied s.tables.ice[k] s.staged.tables.ice[k] else s.ice[k] := by
      rw [State.ice_of_answered hview, ← hu]
      exact applyEffect_ice s k
    rw [← hx] at hice
    refine ⟨fun hv => by rw [hice, hv]; rfl, fun hv => ?_⟩
    rw [if_pos hv] at hice
    rw [hice]
    refine ⟨rfl, rfl, rfl, rfl, fun hiced => ?_, fun b => ?_⟩
    · have hturbine := State.turbine_of_answered hview k
      have hbegun := hbegun k
      rw [← hu] at hturbine hbegun
      obtain ⟨-, -, -, hlevel, -⟩ := turbine_applied hturbine hbegun
      rw [hlevel hv (hx ▸ hiced)]
      cases s.staged.tables.ice[k].level <;> rfl
    · rw [IceRecord.applied_blade]
      exact applyBlade_cases _ _ b _
  · obtain ⟨w, hw, hwt, hactive, hpoint⟩ := applyEffect_point s p
    have hyp : y = (applyGridBinding s.tables p w).points[p] := by
      rw [hy, State.points_of_answered hview, ← hu]
      exact hpoint
    have hentered := GridPoint.entered_eq s.tables.grid[p] s.staged.tables.grid[p] x
    rw [← hx] at hw
    rw [← hw] at hentered
    have hintake : w.points[p].intake = x.intake := by rw [hentered]
    obtain ⟨hlast, hlost, hgained, hkept⟩ := point_entered (a := s.tables.grid[p]) (b := s.staged.tables.grid[p])
      (x := x) (y := y) (by rw [← hw, hyp]; exact applyGridBinding_record _ _ _)
    refine ⟨hlast, hlost, hgained, hkept, fun hwas his => ?_, fun hwas his => ?_, fun a b hwas his ha hb =>
      ⟨fun hab hsame => ?_, fun hmoved => ?_⟩⟩
    · rw [hyp, applyGridBinding_lost hwas (by rw [hwt]; exact his)]
      exact ⟨rfl, rfl, rfl, rfl⟩
    · rw [hyp, applyGridBinding_gained hwas (by rw [hwt]; exact his)]
      exact ⟨if_congr hactive rfl rfl, rfl⟩
    · subst hab
      rw [hyp, applyGridBinding_same hwas (by rw [hwt]; exact his) ha (by rw [hwt]; exact hb) (by rw [hwt]; exact hsame),
        hentered]
      exact ⟨rfl, rfl, rfl, rfl, rfl⟩
    · obtain ⟨hexpect, hstate⟩ := applyGridBinding_moved hwas (by rw [hwt]; exact his) ha (by rw [hwt]; exact hb)
        (by rw [hwt]; exact hmoved)
      rw [hyp]
      refine ⟨hexpect, ?_⟩
      rw [hstate, hintake]
      cases x.intake <;> rfl

end Sys2Proof.Machine
end

section
/-! PROOFS. The clock: what a millisecond, the minute event, the end of the day and the holdover timer do (R137, R140,
R191, R193, R194), and the step with no command waiting. -/

namespace Sys2Proof.Machine

/-! ### Usage reports and evaluations reach entries, notices and the error record -/

section
variable {s t u : State}

/-- Only maintenance entries, the notice queue and the error record changed. -/
def Maintains (s t : State) : Prop := t = { s with items := t.items, notices := t.notices, errors := t.errors }

theorem Maintains.refl : Maintains s s := rfl

theorem Maintains.trans (h : Maintains s t) (h' : Maintains t u) : Maintains s u := by
  unfold Maintains at h h' ⊢
  rw [h', h]

theorem offer_maintains (o : Offer) (s : State) : Maintains s (offer o s) := by
  obtain ⟨q, e, heq⟩ := offer_eq o s
  rw [heq]
  rfl

theorem evaluate_maintains (n : Fin 96) (s : State) : Maintains s (evaluate n s) := by
  by_cases h : s.items[n].evaluated s.scheduleDay s.tables.global.graceDays = s.items[n].state
  · rw [evaluate_of_same h]
    exact .refl
  · rw [evaluate_of_change rfl h]
    have hitem : Maintains s (s.modItem n fun e => { e with state := s.items[n].evaluated s.scheduleDay s.tables.global.graceDays }) :=
      rfl
    exact hitem.trans (offer_maintains _ _)

theorem evaluateValid_maintains (s : State) : Maintains s (evaluateValid s) :=
  forAll_keeps (Maintains s) (fun n t h => by
    split
    · exact h.trans (evaluate_maintains n t)
    · exact h) s .refl

/-- What a report of weights does to one entry (R135). -/
def MaintItem.reported (weight : MaintItem → Option Nat) (day : Option Nat) (grace : Nat) (x : MaintItem) : MaintItem :=
  match weight x with
  | some w => if x.valid then
      { x with usage := min (x.usage + w) usageMax
               state := { x with usage := min (x.usage + w) usageMax : MaintItem }.evaluated day grace }
    else x
  | none => x

/-- One entry's share of a report. -/
def reportOne (weight : MaintItem → Option Nat) (n : Fin 96) (s : State) : State :=
  if s.items[n].valid then
    match weight s.items[n] with
    | some w => addUsage n w s
    | none => s
  else s

theorem reportOne_cases (weight : MaintItem → Option Nat) (n : Fin 96) (s : State) :
    reportOne weight n s = s ∧ s.items[n].reported weight s.scheduleDay s.tables.global.graceDays = s.items[n] ∨
    ∃ w, reportOne weight n s = addUsage n w s ∧
      s.items[n].reported weight s.scheduleDay s.tables.global.graceDays = (addUsage n w s).items[n] := by
  cases hv : s.items[n].valid with
  | false =>
    refine .inl ⟨by simp only [reportOne, hv, Bool.false_eq_true, if_false], ?_⟩
    unfold MaintItem.reported
    split
    · simp only [hv, Bool.false_eq_true, if_false]
    · rfl
  | true =>
    cases hw : weight s.items[n] with
    | none => exact .inl ⟨by simp only [reportOne, hw, ite_self], by simp only [MaintItem.reported, hw]⟩
    | some w =>
      refine .inr ⟨w, by simp only [reportOne, hw, hv, if_true], ?_⟩
      rw [addUsage, evaluate_items_same, State.modItem_items, upd_same]
      simp only [MaintItem.reported, hw, hv, if_true, State.modItem_scheduleDay, State.modItem_tables]

theorem addUsage_maintains (n : Fin 96) (w : Nat) (s : State) : Maintains s (addUsage n w s) := by
  have husage : Maintains s (s.modItem n fun e => { e with usage := min (e.usage + w) usageMax }) := rfl
  exact husage.trans (evaluate_maintains _ _)

theorem reportOne_maintains (weight : MaintItem → Option Nat) (n : Fin 96) (s : State) :
    Maintains s (reportOne weight n s) := by
  rcases reportOne_cases weight n s with ⟨heq, -⟩ | ⟨w, heq, -⟩
  · rw [heq]
    exact .refl
  · rw [heq]
    exact addUsage_maintains n w s

theorem reportOne_other {m n : Fin 96} (weight : MaintItem → Option Nat) (s : State) (h : m ≠ n) :
    (reportOne weight n s).items[m] = s.items[m] := by
  rcases reportOne_cases weight n s with ⟨heq, -⟩ | ⟨w, heq, -⟩
  · rw [heq]
  · rw [heq, addUsage, evaluate_items_other _ _ h, State.modItem_items, upd_other _ _ _ _ h]

theorem report_eq (weight : MaintItem → Option Nat) (s : State) : report weight s = forAll 96 (reportOne weight) s := rfl

theorem report_maintains (weight : MaintItem → Option Nat) (s : State) : Maintains s (report weight s) :=
  forAll_keeps (Maintains s) (fun n t h => h.trans (reportOne_maintains weight n t)) s .refl

/-- Each entry takes its own share of a report. -/
theorem report_items (weight : MaintItem → Option Nat) (s : State) (n : Fin 96) :
    (report weight s).items[n] = s.items[n].reported weight s.scheduleDay s.tables.global.graceDays := by
  rw [report_eq]
  refine forAll_each (P := fun t => t.scheduleDay = s.scheduleDay ∧ t.tables = s.tables) (fun t n => t.items[n])
    (g := fun _ => MaintItem.reported weight s.scheduleDay s.tables.global.graceDays) ?_ ?_ ?_ ⟨rfl, rfl⟩ n
  · rintro n t ⟨hday, htables⟩
    have h := reportOne_maintains weight n t
    rw [h]
    exact ⟨hday, htables⟩
  · rintro n t ⟨hday, htables⟩
    rw [← hday, ← htables]
    rcases reportOne_cases weight n t with ⟨heq, hitem⟩ | ⟨w, heq, hitem⟩
    · rw [heq, hitem]
    · rw [heq, hitem]
  · rintro n m t - h
    exact reportOne_other weight t h

theorem MaintItem.reported_usage {weight : MaintItem → Option Nat} {day : Option Nat} {grace : Nat} {x : MaintItem} :
    (x.reported weight day grace).usage = match weight x with
      | some w => if x.valid then min (x.usage + w) usageMax else x.usage
      | none => x.usage := by
  unfold MaintItem.reported
  split
  · split <;> rfl
  · rfl

/-! ### The minute event -/

/-- The minute event is due (R194, log 38). -/
def State.minuteDue (s : State) : Prop :=
  0 < s.clock.counter ∧ s.clock.counter % 60000 = 0 ∧ s.minuteTaken ≠ s.clock.counter

theorem minutePasses_of_due (h : s.minuteDue) : minutePasses s = reportMinute { s with minuteTaken := s.clock.counter } :=
  if_pos h

theorem minutePasses_of_not_due (h : ¬ s.minuteDue) : minutePasses s = s := if_neg h

/-- The weight a minute event gives an entry: that of a RUN source whose turbine runs (R137). -/
theorem reportMinute_eq (s : State) : ∃ weight, reportMinute s = report weight s ∧
    (∀ x w, x.source = .run w → weight x = if s.turbines[x.turbine].running then some w else none) ∧
    ∀ x, (∀ w, x.source ≠ .run w) → weight x = none := by
  refine ⟨_, rfl, fun x w h => by simp only [h], fun x h => ?_⟩
  cases hx : x.source with
  | run w => exact absurd hx (h w)
  | _ => rfl

theorem minutePasses_maintains (s : State) :
    Maintains { s with minuteTaken := (minutePasses s).minuteTaken } (minutePasses s) := by
  by_cases h : s.minuteDue
  · obtain ⟨weight, heq, -, -⟩ := reportMinute_eq { s with minuteTaken := s.clock.counter }
    have hreport := report_maintains weight { s with minuteTaken := s.clock.counter }
    rw [← heq, ← minutePasses_of_due h] at hreport
    have htaken : (minutePasses s).minuteTaken = s.clock.counter := by rw [hreport]
    rw [htaken]
    exact hreport
  · rw [minutePasses_of_not_due h]
    exact .refl

theorem minutePasses_taken (h : s.minuteDue) : (minutePasses s).minuteTaken = s.clock.counter := by
  obtain ⟨weight, heq, -, -⟩ := reportMinute_eq { s with minuteTaken := s.clock.counter }
  rw [minutePasses_of_due h, heq, report_maintains weight _]

theorem Turbine.running_iff (x : Turbine) : x.running = true ↔
    x.freshness = .fresh ∧ (x.status.op = .producing ∨ x.status.op = .curtailed) := by
  rw [Turbine.running, Bool.and_eq_true, decide_eq_true_iff]
  cases x.status.op <;> simp [OpState.running]

theorem minutePasses_run {n : Fin 96} {w : Nat} (h : s.minuteDue) (hn : s.items[n].source = .run w) :
    (minutePasses s).items[n].usage = if s.items[n].valid = true ∧ s.turbines[s.items[n].turbine].freshness = .fresh ∧
        (s.turbines[s.items[n].turbine].status.op = .producing ∨ s.turbines[s.items[n].turbine].status.op = .curtailed) then
      min (s.items[n].usage + w) 4294967295 else s.items[n].usage := by
  obtain ⟨weight, heq, hrun, -⟩ := reportMinute_eq { s with minuteTaken := s.clock.counter }
  rw [minutePasses_of_due h, heq, report_items, MaintItem.reported_usage]
  simp only [hrun _ _ hn]
  by_cases hr : s.turbines[s.items[n].turbine].running = true
  · simp only [hr, if_true, (Turbine.running_iff _).mp hr, and_self, and_true]
    rfl
  · rw [if_neg hr, if_neg fun hc => hr ((Turbine.running_iff _).mpr hc.2)]

theorem minutePasses_other {n : Fin 96} (h : s.minuteDue) (hn : ∀ w, s.items[n].source ≠ .run w) :
    (minutePasses s).items[n].usage = s.items[n].usage := by
  obtain ⟨weight, heq, -, hother⟩ := reportMinute_eq { s with minuteTaken := s.clock.counter }
  rw [minutePasses_of_due h, heq, report_items, MaintItem.reported_usage]
  simp only [hother _ hn]

/-! ### A millisecond and the end of the day -/

theorem nextCounter_of_lt {n : Nat} (h : n < 2 ^ 48 - 1) : nextCounter n = n + 1 := if_pos h

theorem Clock.advance_unset {c : Clock} (h : c.sync = .unset) : c.advance = { c with counter := nextCounter c.counter } := by
  simp [Clock.advance, Clock.dayEnds, Clock.runs, h]

theorem Clock.dayEnds_iff (c : Clock) : c.dayEnds = true ↔ c.sync ≠ .unset ∧ 86400000 ≤ c.ms + 1 := by
  rw [Clock.dayEnds, Clock.runs, Bool.and_eq_true, decide_eq_true_iff, decide_eq_true_iff]
  rfl

theorem Clock.advance_within {c : Clock} (h : c.sync ≠ .unset) (hms : c.ms < 86399999) :
    c.advance = { c with counter := nextCounter c.counter, ms := c.ms + 1 } := by
  have hends : c.dayEnds = false := by
    rw [← Bool.not_eq_true, Clock.dayEnds_iff]
    omega
  simp only [Clock.advance, hends, Clock.runs, h, ne_eq, not_false_eq_true, decide_true, Bool.false_eq_true, if_false, if_true]

theorem Clock.advance_last {c : Clock} (h : c.dayEnds = true) :
    c.advance = { c with counter := nextCounter c.counter, ms := 0, day := (c.day + 1) % 65536 } := by
  simp only [Clock.advance, h, if_true]

theorem dayChange_maintains (s : State) :
    Maintains { s with scheduleDay := s.scheduleDay.map fun d => max d s.clock.day } (dayChange s) := by
  have h := evaluateValid_maintains { s with scheduleDay := s.scheduleDay.map fun d => max d s.clock.day }
  have hday : dayChange s = evaluateValid { s with scheduleDay := s.scheduleDay.map fun d => max d s.clock.day } := by
    unfold dayChange
    cases s.scheduleDay <;> rfl
  rw [hday]
  exact h

theorem passMillisecond_of_dayEnds (h : s.clock.dayEnds = true) :
    passMillisecond s = dayChange { s with clock := s.clock.advance } := if_pos h

theorem dayWraps_of_dayEnds (h : s.clock.dayEnds = true) : dayWraps s = passMillisecond (minutePasses s) := if_pos h

theorem dayWraps_of_not (h : ¬ s.clock.dayEnds = true) : dayWraps s = s := if_neg h

/-- What the day command leaves beside entries, notices and the error record, where the day ends with it. -/
theorem dayWraps_maintains (h : s.clock.dayEnds = true) : Maintains { s with
    clock := s.clock.advance, minuteTaken := (minutePasses s).minuteTaken
    scheduleDay := s.scheduleDay.map fun d => max d s.clock.advance.day } (dayWraps s) := by
  have hminute := minutePasses_maintains s
  have hclock : (minutePasses s).clock = s.clock := by rw [hminute]
  rw [dayWraps_of_dayEnds h, passMillisecond_of_dayEnds (by rwa [hclock])]
  generalize minutePasses s = u at hminute hclock
  have hday := dayChange_maintains { u with clock := u.clock.advance }
  unfold Maintains at hday hminute ⊢
  rw [hday]
  generalize dayChange { u with clock := u.clock.advance } = v
  rw [hminute]

/-! ### What happens between two milliseconds -/

/-- Day, ms of day, counter and tables stand, and a clock that is set stays set. -/
def KeepsTime (s t : State) : Prop := t.tables = s.tables ∧ t.pending = s.pending ∧
  t.clock.counter = s.clock.counter ∧ t.clock.ms = s.clock.ms ∧ t.clock.day = s.clock.day ∧
  (t.clock.sync = .unset ↔ s.clock.sync = .unset)

theorem KeepsTime.refl : KeepsTime s s := ⟨rfl, rfl, rfl, rfl, rfl, .rfl⟩

theorem KeepsTime.trans (h : KeepsTime s t) (h' : KeepsTime t u) : KeepsTime s u := by
  obtain ⟨ht, hp, hc, hm, hd, hs⟩ := h
  obtain ⟨ht', hp', hc', hm', hd', hs'⟩ := h'
  exact ⟨ht'.trans ht, hp'.trans hp, hc'.trans hc, hm'.trans hm, hd'.trans hd, hs'.trans hs⟩

theorem KeepsTime.of_clock (ht : t.tables = s.tables) (hp : t.pending = s.pending) (hc : t.clock = s.clock) :
    KeepsTime s t := by
  refine ⟨ht, hp, ?_⟩
  rw [hc]
  exact ⟨rfl, rfl, rfl, .rfl⟩

theorem KeepsTime.of_shell (h : t.shell = s.shell) : KeepsTime s t :=
  .of_clock (State.tables_of_shell h) (State.pending_of_shell h) (State.clock_of_shell h)

theorem KeepsTime.of_maintains (h : Maintains s t) : KeepsTime s t := by
  rw [h]
  exact .of_clock rfl rfl rfl

theorem arbitrate_keepsTime (s : State) : KeepsTime s (arbitrate s) :=
  .of_clock (arbitrate_tables s) (arbitrate_pending s) (arbitrate_clock s)

theorem holdoverExpires_of_due (h : s.clock.sync = .locked ∧ due s.clock.holdoverExpiry s.now = true) :
    holdoverExpires s = clockNotice SyncState.locked.code SyncState.holdover.code
      { s with clock := { s.clock with sync := .holdover, holdoverExpiry := none } } := if_pos h

theorem holdoverExpires_keepsTime (s : State) : KeepsTime s (holdoverExpires s) := by
  by_cases h : s.clock.sync = .locked ∧ due s.clock.holdoverExpiry s.now = true
  · rw [holdoverExpires_of_due h]
    have hclock : KeepsTime s { s with clock := { s.clock with sync := .holdover, holdoverExpiry := none } } := by
      refine ⟨rfl, rfl, rfl, rfl, rfl, ?_⟩
      rw [h.1]
      exact ⟨nofun, nofun⟩
    exact hclock.trans (.of_shell (offer_shell _ _))
  · rw [holdoverExpires, if_neg h]
    exact .refl

theorem minutePasses_keepsTime (s : State) : KeepsTime s (minutePasses s) := by
  have htaken : KeepsTime s { s with minuteTaken := (minutePasses s).minuteTaken } := .refl
  exact htaken.trans (.of_maintains (minutePasses_maintains s))

theorem expiry_keepsTime {f : State → State} (hf : f ∈ expiries) (s : State) : KeepsTime s (f s) := by
  simp only [expiries, List.mem_append, List.mem_cons, List.not_mem_nil, or_false, List.mem_map, List.mem_finRange,
    true_and] at hf
  rcases hf with ((((rfl | rfl) | ⟨k, rfl⟩) | ⟨k, rfl⟩) | ⟨c, rfl⟩) | ⟨p, rfl⟩
  · exact holdoverExpires_keepsTime s
  · exact minutePasses_keepsTime s
  · exact .of_shell (freshnessExpires_shell k s)
  · exact .of_shell (resendExpires_shell k s)
  · exact .of_shell (channelIdleExpires_shell c s)
  · exact .of_shell (gridIdleExpires_shell p s)

theorem foldl_arbitrate_keepsTime {l : List (State → State)} (h : ∀ f ∈ l, ∀ s, KeepsTime s (f s)) (s : State) :
    KeepsTime s (l.foldl (fun s f => arbitrate (f s)) s) := by
  induction l generalizing s with
  | nil => exact .refl
  | cons f l ih =>
    have hf : KeepsTime s (arbitrate (f s)) := (h f List.mem_cons_self s).trans (arbitrate_keepsTime _)
    exact hf.trans (ih (fun g hg => h g (List.mem_cons_of_mem _ hg)) _)

theorem takeDue_keepsTime (s : State) : KeepsTime s (takeDue s) :=
  foldl_arbitrate_keepsTime (fun _ hf => expiry_keepsTime hf) s

end

/-! ### The statements -/

/-- Settles O3: what falls due before and after the millisecond leaves the time of day; the millisecond is
`Clock.advance`. -/
theorem idleStepPassesAMillisecond : Obligations.IdleStepPassesAMillisecond := by
  intro s hidle hlow hend hms
  have hstep : step s = .next (takeDue (arbitrate (passMillisecond (takeDue s)))) := by
    simp only [step, hidle, tick, hlow, Bool.false_eq_true, if_false]
  refine ⟨_, hstep, ?_⟩
  obtain ⟨ht, hp, hc, hm, hd, hs⟩ := takeDue_keepsTime s
  generalize takeDue s = u at ht hp hc hm hd hs
  have hshell := passMillisecond_shell u
  obtain ⟨ht', hp', hc', hm', hd', hs'⟩ := (arbitrate_keepsTime (passMillisecond u)).trans (takeDue_keepsTime _)
  generalize takeDue (arbitrate (passMillisecond u)) = v at ht' hp' hc' hm' hd' hs'
  have hclock : (passMillisecond u).clock = u.clock.advance := by
    have h := congrArg Shell.clock hshell
    exact h
  have htables : (passMillisecond u).tables = u.tables := by
    have h := congrArg Shell.tables hshell
    exact h
  have hpending : (passMillisecond u).pending = u.pending := by
    have h := congrArg Shell.pending hshell
    exact h
  rw [hclock] at hc' hm' hd'
  have hnext : nextCounter u.clock.counter = s.clock.counter + 1 := by rw [hc, nextCounter_of_lt hend]
  refine ⟨hp'.trans (hpending.trans (hp.trans hidle)), ht'.trans (htables.trans ht), ?_, fun hunset => ?_,
    fun hset hwithin => ?_, fun hset hlast => ?_⟩
  · exact hc'.trans hnext
  · rw [hm', hd', Clock.advance_unset (hs.mpr hunset)]
    exact ⟨hm, hd⟩
  · rw [hm', hd', Clock.advance_within (fun h => hset (hs.mp h)) (by rw [hm]; exact hwithin)]
    exact ⟨congrArg (· + 1) hm, hd⟩
  · rw [hm', hd', Clock.advance_last ((Clock.dayEnds_iff _).mpr ⟨fun h => hset (hs.mp h), by omega⟩)]
    exact ⟨rfl, by rw [hd]⟩

/-- The arbiters after a meaning that reaches entries, notices, error record and the minute taken. -/
theorem hideFrames_of_maintains {s m : State} (h : Maintains { s with minuteTaken := m.minuteTaken } m) :
    (arbitrate m).hideFrames = ({ s with
      items := (arbitrate m).items, minuteTaken := (arbitrate m).minuteTaken, notices := (arbitrate m).notices
      errors := (arbitrate m).errors }).hideFrames := by
  have hqueue := arbitrate_noticeQueue m
  have hnext := arbitrate_noticeNext m
  rw [arbitrate_hideFrames, arbitrate_items, arbitrate_minuteTaken, arbitrate_errors]
  generalize (arbitrate m).notices = q at hqueue hnext
  rw [h]
  simp only [State.hideFrames, hqueue, hnext]

/-- Settles O34: the minute's report entry by entry, the millisecond that ends the day, and the holdover timer. -/
theorem clockEvents : Obligations.ClockEvents := by
  refine ⟨fun s hlow => ⟨_, _, live_next _ hlow, live_next _ hlow, fun hpos hmin huntaken => ⟨?_, fun n => ?_⟩,
    fun hnot => ?_, ?_, fun hset hlast => ⟨?_, fun hend => ?_, ?_⟩, fun hnot => ?_, ?_⟩,
    fun expiry s hlow hlocked hexpiry hdue => ⟨_, live_next _ hlow, ?_, ?_⟩⟩
  · rw [arbitrate_minuteTaken]
    exact minutePasses_taken ⟨hpos, hmin, huntaken⟩
  · rw [arbitrate_items]
    cases hsource : s.items[n].source with
    | run w => exact minutePasses_run ⟨hpos, hmin, huntaken⟩ hsource
    | _ => exact minutePasses_other ⟨hpos, hmin, huntaken⟩ (by rw [hsource]; nofun)
  · rw [arbitrate_hideFrames, minutePasses_of_not_due]
    rintro ⟨hpos, hmin, huntaken⟩
    rcases hnot with h | h | h
    · omega
    · exact h hmin
    · exact huntaken h
  · exact hideFrames_of_maintains (minutePasses_maintains s)
  · have hends : s.clock.dayEnds = true := (Clock.dayEnds_iff _).mpr ⟨hset, by omega⟩
    rw [arbitrate_clock, dayWraps_maintains hends]
    exact Clock.advance_last hends
  · have hends : s.clock.dayEnds = true := (Clock.dayEnds_iff _).mpr ⟨hset, by omega⟩
    rw [arbitrate_clock, dayWraps_maintains hends]
    exact (congrArg Clock.counter (Clock.advance_last hends)).trans (nextCounter_of_lt hend)
  · have hends : s.clock.dayEnds = true := (Clock.dayEnds_iff _).mpr ⟨hset, by omega⟩
    rw [arbitrate_scheduleDay, dayWraps_maintains hends]
    simp only [Clock.advance_last hends]
  · rw [arbitrate_hideFrames, dayWraps_of_not]
    rw [Clock.dayEnds_iff]
    rintro ⟨hset, hlast⟩
    rcases hnot with h | h
    · exact hset h
    · omega
  · rw [arbitrate_tables, arbitrate_channels, arbitrate_insts, arbitrate_ice]
    by_cases hends : s.clock.dayEnds = true
    · rw [dayWraps_maintains hends]
      exact ⟨rfl, rfl, rfl, rfl⟩
    · rw [dayWraps_of_not hends]
      exact ⟨rfl, rfl, rfl, rfl⟩
  · rw [arbitrate_clock, holdoverExpires_of_due ⟨hlocked, due_of_le hexpiry hdue⟩]
    exact State.clock_of_shell (offer_shell _ _)
  · rw [arbitrate_hideFrames, holdoverExpires_of_due ⟨hlocked, due_of_le hexpiry hdue⟩]
    rfl

end Sys2Proof.Machine
end

section
/-! PROOFS. The reception of a frame: what every frame does to the link (R184 to R189), and the frames that reach one
block: TIME (R192), STATUS (R3 to R5), a late SAMPLE (R28) and a request (R197). -/

namespace Sys2Proof.Machine

section
variable {s t u : State} {p q : Port} {bytes : List Byte}

/-! ### What arrives before a frame is used -/

/-- Only the ports, the notice queue and the error record changed. -/
def Arrives (s t : State) : Prop := t = { s with link := t.link, notices := t.notices, errors := t.errors }

theorem Arrives.trans (h : Arrives s t) (h' : Arrives t u) : Arrives s u := by
  unfold Arrives at h h' ⊢
  rw [h', h]

theorem Arrives.modPort (s : State) (p : Port) (f : PortState → PortState) : Arrives s (s.modPort p f) := rfl

theorem Arrives.offer (o : Offer) (s : State) : Arrives s (offer o s) := by
  obtain ⟨q, e, heq⟩ := offer_eq o s
  rw [heq]
  rfl

/-- The health counter of a port after a frame. -/
def countHealth (p : Port) (good : Bool) (s : State) : State :=
  s.modPort p fun x => { x with health := healthStep good (s.link.port p).health }

/-- The LINK notice of a change of health state, offered in the state with the new counter. -/
theorem portHealth_of_same {good : Bool}
    (h : healthOf (healthStep good (s.link.port p).health) = healthOf (s.link.port p).health) :
    portHealth p good s = countHealth p good s := if_pos h

theorem portHealth_of_change {good : Bool}
    (h : healthOf (healthStep good (s.link.port p).health) ≠ healthOf (s.link.port p).health) :
    portHealth p good s = linkNotice (.port p) (healthOf (s.link.port p).health).code
      (healthOf (healthStep good (s.link.port p).health)).code (countHealth p good s) := if_neg h

theorem portHealth_arrives (p : Port) (good : Bool) (s : State) : Arrives s (portHealth p good s) := by
  have hcount : Arrives s (countHealth p good s) := .modPort _ _ _
  by_cases h : healthOf (healthStep good (s.link.port p).health) = healthOf (s.link.port p).health
  · rw [portHealth_of_same h]
    exact hcount
  · rw [portHealth_of_change h]
    exact hcount.trans (.offer _ _)

theorem portHealth_link (p : Port) (good : Bool) (s : State) :
    (portHealth p good s).link = (countHealth p good s).link := by
  by_cases h : healthOf (healthStep good (s.link.port p).health) = healthOf (s.link.port p).health
  · rw [portHealth_of_same h]
  · rw [portHealth_of_change h]
    exact State.link_of_shell (linkNotice_shell _ _ _ _)

theorem forward_of_room (h : (s.link.port p).buffer.length < 16) :
    forward p bytes s = s.modPort p fun x => { x with buffer := x.buffer ++ [bytes] } := if_pos h

theorem forward_of_full (h : 16 ≤ (s.link.port p).buffer.length) : forward p bytes s = s.setForwardOverflow :=
  if_neg (show ¬ (s.link.port p).buffer.length < Config.forwardSize from Nat.not_lt.mpr h)

theorem forward_arrives (p : Port) (bytes : List Byte) (s : State) : Arrives s (forward p bytes s) := by
  by_cases h : (s.link.port p).buffer.length < 16
  · rw [forward_of_room h]
    exact .modPort _ _ _
  · rw [forward_of_full (Nat.le_of_not_lt h)]
    rfl

/-- The state in which a good frame is used: its port's health counted, the frame forwarded unless it is consumed. -/
def arrived (p : Port) (bytes : List Byte) (s : State) : State :=
  if (portHealth p true s).consumed p (parseFrame bytes) then portHealth p true s
  else forward (otherPort p) bytes (portHealth p true s)

theorem arrived_arrives (p : Port) (bytes : List Byte) (s : State) : Arrives s (arrived p bytes s) := by
  unfold arrived
  split
  · exact portHealth_arrives p true s
  · exact (portHealth_arrives p true s).trans (forward_arrives _ _ _)

theorem exec_good (hlow : s.resetLow = false) (hgood : frameGood bytes = true) :
    exec (.frameReception p bytes) s = .next (arbitrate (alsoUsed p (parseFrame bytes) (arrived p bytes s))) := by
  have hexec : exec (.frameReception p bytes) s = live (receive p bytes) s := rfl
  rw [hexec, live_next _ hlow, receive, if_pos hgood]
  rfl

theorem exec_bad (hlow : s.resetLow = false) (hbad : frameGood bytes = false) :
    exec (.frameReception p bytes) s = .next (arbitrate (portHealth p false s)) := by
  have hexec : exec (.frameReception p bytes) s = live (receive p bytes) s := rfl
  rw [hexec, live_next _ hlow, receive, if_neg (by rw [hbad]; exact Bool.false_ne_true)]

/-! ### Frames no block uses -/

theorem frameGood_eq_false (h : bytes.length < 8 ∨ bytes.length ≠ 8 + at16 bytes 4 ∨
    bytes.drop (bytes.length - 2) ≠ crcBytes (bytes.take (bytes.length - 2))) : frameGood bytes = false := by
  rw [← Bool.not_eq_true, frameGood, Bool.and_eq_true, Bool.and_eq_true, decide_eq_true_iff, decide_eq_true_iff,
    decide_eq_true_iff]
  rintro ⟨⟨hsize, hlength⟩, hcrc⟩
  rcases h with h | h | h
  · exact absurd hsize (Nat.not_le.mpr h)
  · exact h hlength
  · exact h hcrc

/-- What a free port does with its buffer when the arbiters choose: it stands, or its head is begun. -/
theorem arbitrate_free (hfree : (s.link.port p).sending = none) :
    (((arbitrate s).link.port p).buffer = (s.link.port p).buffer ∧
      ∀ f, ((arbitrate s).link.port p).sending ≠ some (.forwarded f)) ∨
    ∃ f, (s.link.port p).buffer = f :: ((arbitrate s).link.port p).buffer ∧
      ((arbitrate s).link.port p).sending = some (.forwarded f) := by
  have hown : s.ownWaiting p = true → ((s.link.port p).buffer = [] ∨ 8 ≤ (s.link.port p).runCount) →
      ((arbitrate s).link.port p).buffer = (s.link.port p).buffer ∧
        ∀ f, ((arbitrate s).link.port p).sending ≠ some (.forwarded f) := by
    intro hwait hrun
    obtain ⟨x, hx, hnot⟩ := arbitrate_own hfree hwait hrun
    rw [hx]
    exact ⟨rfl, fun f hf => hnot f (Option.some.inj hf)⟩
  cases hbuf : (s.link.port p).buffer with
  | nil =>
    cases hwait : s.ownWaiting p with
    | true =>
      have h := hown hwait (.inl hbuf)
      rw [hbuf] at h
      exact .inl h
    | false =>
      rw [arbitrate_idle hfree hwait hbuf, hbuf, hfree]
      exact .inl ⟨rfl, fun f => nofun⟩
  | cons f rest =>
    cases hwait : s.ownWaiting p with
    | true =>
      by_cases hrun : (s.link.port p).runCount < 8
      · rw [arbitrate_forwards_first hfree hwait hbuf hrun]
        exact .inr ⟨f, rfl, rfl⟩
      · have h := hown hwait (.inr (Nat.le_of_not_lt hrun))
        rw [hbuf] at h
        exact .inl h
    | false =>
      rw [arbitrate_forwards hfree hwait hbuf]
      exact .inr ⟨f, rfl, rfl⟩

/-- Counting health leaves buffers and transmissions. -/
theorem countHealth_port (p q : Port) (good : Bool) (s : State) :
    ((countHealth p good s).link.port q).buffer = (s.link.port q).buffer ∧
      ((countHealth p good s).link.port q).sending = (s.link.port q).sending := by
  by_cases h : q = p
  · subst h
    rw [countHealth, State.modPort_port]
    exact ⟨rfl, rfl⟩
  · rw [countHealth, State.modPort_other _ _ h]
    exact ⟨rfl, rfl⟩

theorem countHealth_health (p : Port) (good : Bool) (s : State) :
    ((countHealth p good s).link.port p).health = healthStep good (s.link.port p).health := by
  rw [countHealth, State.modPort_port]

theorem countHealth_other (good : Bool) (s : State) (h : q ≠ p) : (countHealth p good s).link.port q = s.link.port q := by
  rw [countHealth, State.modPort_other _ _ h]

theorem ownWaiting_of_arrives (h : Arrives s t) (hn : t.notices = s.notices) (q : Port) : t.ownWaiting q = s.ownWaiting q := by
  rw [h, hn]
  cases q <;> rfl

/-- The arbiters after a frame that only reached ports and error record. -/
theorem hideFrames_of_arrives (h : Arrives s u) (hn : u.notices = s.notices) : (arbitrate u).hideFrames =
    ({ s with link := (arbitrate u).link, errors := (arbitrate u).errors }).hideFrames := by
  have hview := arbitrate_hideFrames u
  have hfield : (arbitrate u).link.field.hideFrames = u.link.field.hideFrames := by
    have hf := congrArg (fun x => x.link.field) hview
    exact hf
  have hstation : (arbitrate u).link.station.hideFrames = u.link.station.hideFrames := by
    have hs := congrArg (fun x => x.link.station) hview
    exact hs
  rw [hview, arbitrate_errors]
  generalize (arbitrate u).link = l at hfield hstation
  obtain ⟨l', n', e', rfl⟩ : ∃ l n e, u = { s with link := l, notices := n, errors := e } := ⟨_, _, _, h⟩
  have hnotices : n' = s.notices := hn
  have hfield' : l.field.hideFrames = l'.field.hideFrames := hfield
  have hstation' : l.station.hideFrames = l'.station.hideFrames := hstation
  simp only [State.hideFrames, hnotices, hfield', hstation']

end

/-- Settles O7: a frame that fails its checks only counts at its port's health. -/
theorem badFrameReachesHealthOnly : Obligations.BadFrameReachesHealthOnly := by
  intro p bytes s u hlow hbad hu
  have hcount : u = countHealth p false s := by
    rw [hu]
    cases p <;> rfl
  have hlink := portHealth_link p false s
  rw [← hcount] at hlink
  have hhealth : (u.link.port p).health = healthStep false (s.link.port p).health := by
    rw [hcount, countHealth_health]
  refine ⟨_, exec_bad hlow (frameGood_eq_false hbad), fun q hbusy => ?_, fun q hfree => ?_, fun hsame => ?_, fun hchange => ?_⟩
  · have hport := countHealth_port p q false s
    rw [← hcount, ← hlink] at hport
    rw [arbitrate_busy (by rw [hport.2]; exact hbusy), hlink]
  · have hport := countHealth_port p q false s
    rw [← hcount, ← hlink] at hport
    have h := arbitrate_free (s := portHealth p false s) (p := q) (by rw [hport.2]; exact hfree)
    rwa [hport.1] at h
  · rw [arbitrate_hideFrames, portHealth_of_same (by rw [← hhealth]; exact hsame), hcount]
  · rw [arbitrate_hideFrames, portHealth_of_change (by rw [← hhealth]; exact hchange), hhealth, hcount]
    rfl

theorem frameKind_unknown {n : Nat} (h : n ∉ [0x01, 0x02, 0x03, 0x10, 0x20, 0x21, 0x30, 0x31]) : FrameKind.ofCode n = none := by
  simp only [List.mem_cons, List.not_mem_nil, or_false, not_or] at h
  obtain ⟨h1, h2, h3, h4, h5, h6, h7, h8⟩ := h
  simp only [FrameKind.ofCode, h1, h2, h3, h4, h5, h6, h7, h8, if_false]

/-- A frame of no known kind is forwarded and used by no block. -/
theorem alsoUsed_unknown {bytes : List Byte} (h : FrameKind.ofCode (at8 bytes 2) = none) (p : Port) (s : State) :
    alsoUsed p (parseFrame bytes) s = s := by
  have hkind : (parseFrame bytes).kind = none := h
  unfold alsoUsed
  rw [hkind]
  cases p <;> rfl

theorem arrived_unknown {bytes : List Byte} (h : FrameKind.ofCode (at8 bytes 2) = none) (p : Port) (s : State) :
    arrived p bytes s = forward (otherPort p) bytes (portHealth p true s) := by
  have hkind : (parseFrame bytes).kind = none := h
  refine if_neg ?_
  rw [State.consumed, hkind, Bool.and_eq_true, Bool.and_eq_true, decide_eq_true_iff, decide_eq_true_iff]
  rintro ⟨⟨-, hreq⟩, -⟩
  cases hreq

/-- Settles O8: a frame of no known kind only reaches the ports. -/
theorem unknownKindOnlyForwarded : Obligations.UnknownKindOnlyForwarded := by
  intro p q bytes s hlow hq hgood hkind hclean
  have hnone := frameKind_unknown hkind
  have hother : q ≠ p := by
    rw [hq]
    cases p <;> exact nofun
  have hstep : healthOf (healthStep true (s.link.port p).health) = healthOf (s.link.port p).health := by
    have hless : (s.link.port p).health - 1 ≤ 63 := by omega
    have hto : healthStep true (s.link.port p).health = (s.link.port p).health - 1 := rfl
    rw [hto, healthOf, healthOf, if_pos hless, if_pos hclean]
  refine ⟨_, exec_good hlow hgood, ?_⟩
  rw [alsoUsed_unknown hnone, arrived_unknown hnone, portHealth_of_same hstep, ← hq]
  have hqport := countHealth_other (p := p) (q := q) true s hother
  have hpport := countHealth_health p true s
  have hcount : Arrives s (countHealth p true s) := .modPort _ _ _
  have herrors : (countHealth p true s).errors = s.errors := rfl
  have hqueue : (countHealth p true s).notices = s.notices := rfl
  generalize countHealth p true s = v at hqport hpport hcount herrors hqueue
  have harrives : Arrives s (forward q bytes v) := hcount.trans (forward_arrives _ _ _)
  have hnotices : (forward q bytes v).notices = s.notices := by
    unfold forward
    split
    · exact hqueue
    · exact hqueue
  have hown : (forward q bytes v).ownWaiting q = s.ownWaiting q := ownWaiting_of_arrives harrives hnotices q
  have hroom : (s.link.port q).buffer.length < 16 → (forward q bytes v).link.port q =
      { s.link.port q with buffer := (s.link.port q).buffer ++ [bytes] } ∧ (forward q bytes v).errors = s.errors := by
    intro h
    rw [forward_of_room (by rwa [hqport]), State.modPort_port, hqport]
    exact ⟨rfl, herrors⟩
  have hfull : 16 ≤ (s.link.port q).buffer.length → (forward q bytes v).link.port q = s.link.port q ∧
      (forward q bytes v).errors = { s.errors with forwardOverflow := true } := by
    intro h
    rw [forward_of_full (by rwa [hqport])]
    exact ⟨hqport, congrArg (fun e => { e with forwardOverflow := true }) herrors⟩
  have hhealth : ((forward q bytes v).link.port p).health = (s.link.port p).health - 1 := by
    refine .trans ?_ hpport
    by_cases h : (v.link.port q).buffer.length < 16
    · rw [forward_of_room h, State.modPort_other _ _ (Ne.symm hother)]
    · rw [forward_of_full (Nat.le_of_not_lt h)]
      rfl
  have hqhealth : ((forward q bytes v).link.port q).health = (s.link.port q).health := by
    by_cases h : (s.link.port q).buffer.length < 16
    · rw [(hroom h).1]
    · rw [(hfull (Nat.le_of_not_lt h)).1]
  have hview := arbitrate_hideFrames (forward q bytes v)
  refine ⟨?_, ?_, hideFrames_of_arrives harrives hnotices, fun hfree hbuf hidle => ?_, fun hbusy hlen => ?_,
    fun hbusy hlen => ?_⟩
  · rw [health_of_hideFrames hview, hhealth]
  · rw [health_of_hideFrames hview, hqhealth]
  · obtain ⟨hport, herr⟩ := hroom (by rw [hbuf]; exact Nat.zero_lt_succ _)
    rw [arbitrate_errors, arbitrate_forwards (f := bytes) (rest := []) (by rw [hport]; exact hfree) (by rw [hown]; exact hidle)
      (by rw [hport, hbuf]; rfl), hport, ← hbuf]
    exact ⟨rfl, herr⟩
  · obtain ⟨hport, herr⟩ := hroom hlen
    rw [arbitrate_errors, arbitrate_busy (by rw [hport]; exact hbusy)]
    exact ⟨hport, herr⟩
  · obtain ⟨hport, herr⟩ := hfull hlen
    rw [arbitrate_errors, arbitrate_busy (by rw [hport]; exact hbusy)]
    exact ⟨hport, herr⟩

/-! ### TIME frames (R192) -/

section
variable {s t : State} {bytes : List Byte}

theorem dayChange_to (d : Nat) (h : s.clock.day = d) :
    Maintains { s with scheduleDay := s.scheduleDay.map fun x => max x d } (dayChange s) := by
  subst h
  exact dayChange_maintains s

theorem clockSet_maintains (s : State) : Maintains { s with scheduleDay := some s.clock.day } (clockSet s) :=
  evaluateValid_maintains _

/-- The clock a TIME frame leaves. -/
def Clock.taken (d m : Nat) (c : Clock) : Clock :=
  { day := d, ms := m, sync := .locked, holdoverExpiry := some (c.counter + 3000), lastTime := some c.counter
    counter := c.counter }

/-- The schedule day a TIME frame leaves. -/
def State.scheduleAt (d : Nat) (s : State) : Option Nat :=
  if s.clock.sync = .unset then some d
  else if s.clock.day < d then s.scheduleDay.map fun x => max x d
  else s.scheduleDay

/-- A TIME frame sets clock and schedule day and otherwise evaluates entries and offers notices. -/
theorem takeTime_maintains (d m : Nat) (s : State) :
    Maintains { s with clock := s.clock.taken d m, scheduleDay := s.scheduleAt d } (takeTime d m s) := by
  have hset : { s with clock := { s.clock with
      day := d, ms := m, sync := .locked, holdoverExpiry := some (s.now + Config.holdoverMs), lastTime := some s.now } } =
      { s with clock := s.clock.taken d m } := rfl
  have hlater : s.clock.day < d → s.clock.sync ≠ .unset → Maintains { s with
      clock := s.clock.taken d m, scheduleDay := s.scheduleAt d } (dayChange { s with clock := s.clock.taken d m }) := by
    intro hd hsync
    rw [State.scheduleAt, if_neg hsync, if_pos hd]
    exact dayChange_to d rfl
  have hkept : ¬ s.clock.day < d → s.clock.sync ≠ .unset → Maintains { s with
      clock := s.clock.taken d m, scheduleDay := s.scheduleAt d } { s with clock := s.clock.taken d m } := by
    intro hd hsync
    rw [State.scheduleAt, if_neg hsync, if_neg hd]
    exact .refl
  simp only [takeTime, hset]
  split
  next hsync =>
    have hoffer : Maintains { s with clock := s.clock.taken d m } (clockNotice SyncState.unset.code SyncState.locked.code
      { s with clock := s.clock.taken d m }) := offer_maintains _ _
    rw [State.scheduleAt, if_pos hsync]
    have hclock := clockSet_maintains (clockNotice SyncState.unset.code SyncState.locked.code
      { s with clock := s.clock.taken d m })
    unfold Maintains at hoffer hclock ⊢
    rw [hclock]
    generalize clockSet _ = u
    rw [hoffer]
    rfl
  next hsync =>
    have hne : s.clock.sync ≠ .unset := by rw [hsync]; exact nofun
    split
    next hd => exact hlater hd hne
    next hd =>
      split
      · exact (hkept hd hne).trans (offer_maintains _ _)
      · exact hkept hd hne
  next hsync =>
    have hne : s.clock.sync ≠ .unset := by rw [hsync]; exact nofun
    split
    next hd => exact (hlater hd hne).trans (offer_maintains _ _)
    next hd =>
      split
      · exact ((hkept hd hne).trans (offer_maintains _ _)).trans (offer_maintains _ _)
      · exact (hkept hd hne).trans (offer_maintains _ _)

theorem alsoUsed_time {d m : Nat} (hkind : at8 bytes 2 = 0x10) (ht : timeOf (parseFrame bytes).payload = some (d, m)) (s : State) :
    alsoUsed .station (parseFrame bytes) s = takeTime d m s := by
  have hk : (parseFrame bytes).kind = some .time := by
    simp only [parseFrame, hkind]
    rfl
  unfold alsoUsed
  simp only [hk, ht]

end

/-- Settles O9: the TIME frame is forwarded, and sets clock and schedule day. -/
theorem timeFrameSetsClock : Obligations.TimeFrameSetsClock := by
  intro bytes payload s hlow hgood hkind hpayload hlen hms
  subst hpayload
  have htime : timeOf (parseFrame bytes).payload =
      some (at16 ((bytes.drop 6).take (bytes.length - 8)) 0, at32 ((bytes.drop 6).take (bytes.length - 8)) 2) :=
    if_pos ⟨hlen, hms⟩
  refine ⟨_, exec_good hlow hgood, ?_⟩
  rw [alsoUsed_time hkind htime]
  have harrives := arrived_arrives .station bytes s
  generalize arrived .station bytes s = u at harrives
  have hmaintains := takeTime_maintains (at16 ((bytes.drop 6).take (bytes.length - 8)) 0)
    (at32 ((bytes.drop 6).take (bytes.length - 8)) 2) u
  generalize takeTime _ _ u = v at hmaintains
  rw [arbitrate_clock, arbitrate_scheduleDay, arbitrate_tables, arbitrate_staged, arbitrate_channels, arbitrate_insts,
    arbitrate_ice, arbitrate_points, arbitrate_slots, arbitrate_mgmt, arbitrate_generation, hmaintains, harrives]
  exact ⟨rfl, rfl, rfl, rfl, rfl, rfl, rfl, rfl, rfl, rfl, rfl⟩

/-! ### Frames handed to a target (R22, R23) -/

section
variable {s : State} {kind : Nat} {bytes payload : List Byte} {e : Fin 64} {feed : StreamFeed}

/-- A frame handed to a target is handed over in a state that differs from the one before at ports, notices and error
record alone. -/
theorem exec_hands (h : s.hands kind bytes payload e feed) (hkind : kind = 0x01 ∨ kind = 0x02 ∨ kind = 0x03) :
    ∃ u, Arrives s u ∧ exec (.frameReception .field bytes) s = .next (arbitrate (handOverFrame e (parseFrame bytes) u)) := by
  obtain ⟨hlow, hgood, hcode, -, hclassify, -⟩ := h
  have harrives := arrived_arrives .field bytes s
  refine ⟨_, harrives, ?_⟩
  rw [exec_good hlow hgood]
  have hclass : alsoUsed .field (parseFrame bytes) (arrived .field bytes s) =
      classifyFrame (parseFrame bytes) (arrived .field bytes s) := by
    have hk : (parseFrame bytes).kind = FrameKind.ofCode kind := by rw [← hcode]; rfl
    unfold alsoUsed
    rw [hk]
    rcases hkind with rfl | rfl | rfl <;> rfl
  have htables : (arrived .field bytes s).tables = s.tables := by rw [harrives]
  have hentry : (arrived .field bytes s).tables.classify (parseFrame bytes).source (parseFrame bytes).tag = some e := by
    rw [htables]
    exact hclassify
  rw [hclass, classifyFrame, hentry]

theorem parseFrame_kind {k : FrameKind} (h : at8 bytes 2 = k.code) : (parseFrame bytes).kind = some k := by
  simp only [parseFrame, h]
  cases k <;> rfl

theorem handOverFrame_sample {c : Fin 24} (hfeed : s.tables.streams[e].feed = .vibChannel c) (hkind : at8 bytes 2 = 0x01) :
    handOverFrame e (parseFrame bytes) s = takeSample c e ((bytes.drop 6).take (bytes.length - 8)) s := by
  unfold handOverFrame
  rw [hfeed, parseFrame_kind (k := .sample) hkind]
  rfl

theorem handOverFrame_grid {p : Fin 2} (hfeed : s.tables.streams[e].feed = .gridPoint p) (hkind : at8 bytes 2 = 0x02) :
    handOverFrame e (parseFrame bytes) s = takeGrid p e ((bytes.drop 6).take (bytes.length - 8)) s := by
  unfold handOverFrame
  rw [hfeed, parseFrame_kind (k := .grid) hkind]
  rfl

theorem handOverFrame_status {k : Fin 8} (hfeed : s.tables.streams[e].feed = .turbineStatus k) (hkind : at8 bytes 2 = 0x03)
    (htaken : s.statusTaken k ((bytes.drop 6).take (bytes.length - 8)) = true) : handOverFrame e (parseFrame bytes) s =
      countTaken e (takeStatus k ((bytes.drop 6).take (bytes.length - 8)) s) := by
  have hkindof := parseFrame_kind (k := .status) hkind
  unfold handOverFrame
  rw [hfeed, hkindof]
  exact if_pos htaken

/-! ### A STATUS frame -/

/-- The operating state a STATUS payload names; an unknown one reads as FAULT (R4). -/
theorem statusOf_op (payload : List Byte) : (statusOf payload).op = match at8 payload 0 with
    | 0 => .stopped | 1 => .idling | 2 => .producing | 3 => .curtailed | 5 => .service | _ => .fault := by
  rw [show (statusOf payload).op = (OpState.all[at8 payload 0]?).getD .fault from rfl]
  match at8 payload 0 with
  | 0 | 1 | 2 | 3 | 4 | 5 => rfl
  | n + 6 => rfl

theorem clampInt_eq {lo hi : Int} (h : lo ≤ hi) (v : Int) : clampInt lo hi v = max lo (min hi v) := by
  unfold clampInt
  split
  · omega
  · split <;> omega

theorem takeStatus_turbines (k : Fin 8) (payload : List Byte) (s : State) :
    (takeStatus k payload s).turbines = upd s.turbines k fun x => { x with
      freshness := .fresh, freshExpiry := s.clock.counter + 5000, status := statusOf payload, lastStatus := s.clock.counter } :=
  rfl

end

/-- Settles O10: the STATUS frame is counted and stored at its turbine. -/
theorem statusFrameRefreshesTurbine : Obligations.StatusFrameRefreshesTurbine := by
  intro bytes payload e k s hlow hgood hkind hpayload hlen hclassify hfeed hvalid
  obtain ⟨u, harrives, hexec⟩ := exec_hands ⟨hlow, hgood, hkind, hpayload, hclassify, hfeed⟩ (.inr (.inr rfl))
  subst hpayload
  have htables : u.tables = s.tables := by rw [harrives]
  have hturbines : u.turbines = s.turbines := by rw [harrives]
  have hcounts : u.counts = s.counts := by rw [harrives]
  have hclock : u.clock = s.clock := by rw [harrives]
  rw [handOverFrame_status (by rw [htables]; exact hfeed) hkind (by rw [State.statusTaken, htables, hvalid, hlen]; rfl)] at hexec
  generalize hp : (bytes.drop 6).take (bytes.length - 8) = payload at hexec hlen
  refine ⟨_, hexec, ?_⟩
  have hview := arbitrate_hideFrames (countTaken e (takeStatus k payload u))
  have hturbine : ∀ j : Fin 8, (arbitrate (countTaken e (takeStatus k payload u))).turbines[j] =
      { (takeStatus k payload u).turbines[j] with
        advisory := (arbitrate (countTaken e (takeStatus k payload u))).turbines[j].advisory } := fun j =>
    turbine_of_hideFrames hview j
  have hown := hturbine k
  rw [takeStatus_turbines, upd_same, hturbines, hclock] at hown
  rw [hown]
  refine ⟨rfl, rfl, rfl, ?_, rfl, rfl, fun j hj => ?_, ?_, ?_, ?_, ?_, ?_⟩
  · have hambient : (statusOf payload).ambient = max (-500) (min 600 (sat16 payload 5)) := clampInt_eq (by decide) _
    change statusOf payload = _
    rw [← hambient]
    exact congrArg (fun op => { statusOf payload with op := op }) (statusOf_op payload)
  · rw [hturbine j, takeStatus_turbines, upd_other _ _ _ _ hj, hturbines]
    exact ⟨rfl, rfl⟩
  · rw [arbitrate_counts, ← hcounts]
    exact congrArg StreamCounts.framesTaken (upd_same u.counts e _)
  · rw [arbitrate_channels, harrives]
    rfl
  · rw [arbitrate_ice, harrives]
    rfl
  · rw [arbitrate_items, harrives]
    rfl
  · rw [arbitrate_slots, harrives]
    rfl

/-! ### A late SAMPLE frame (R28) -/

section
variable {s : State}

/-- How far ahead of the expectation a sequence number lies (R28). -/
theorem sequence_ahead (n : Nat) (x : Byte) : (BitVec.ofNat 8 n - x).toNat = (n + 256 - x.toNat) % 256 := by
  rw [BitVec.toNat_sub, BitVec.toNat_ofNat]
  have hx := x.isLt
  omega

theorem takeSample_run {c : Fin 24} {payload : List Byte} (e : Fin 64)
    (hrun : s.channels[c].state = .settling ∨ s.channels[c].state = .running) (hlen : 2 ≤ payload.length) :
    takeSample c e payload s = checkFrame c e payload
      (s.modChannel c fun ch => { ch with idleExpiry := some (s.clock.counter + 2000) }) := by
  have hshort : ¬ payload.length < 2 := Nat.not_lt.mpr hlen
  unfold takeSample
  rcases hrun with h | h
  · rw [h]
    exact if_neg hshort
  · rw [h]
    exact if_neg hshort

theorem checkFrame_late {c : Fin 24} {payload : List Byte} {x : Byte} (e : Fin 64) (hx : s.channels[c].expect = some x)
    (hlate : 128 ≤ (at8 payload 0 + 256 - x.toNat) % 256) : checkFrame c e payload s = s := by
  unfold checkFrame
  simp only [hx, sequence_ahead, if_pos hlate]

end

/-- Settles O11: a late frame only restarts the idle timer. -/
theorem lateSampleFrameIgnored : Obligations.LateSampleFrameIgnored := by
  intro bytes payload e c x s hlow hgood hkind hpayload hlen hclassify hfeed hrun hexpect hlate
  obtain ⟨u, harrives, hexec⟩ := exec_hands ⟨hlow, hgood, hkind, hpayload, hclassify, hfeed⟩ (.inl rfl)
  rw [handOverFrame_sample (by rw [harrives]; exact hfeed) hkind, ← hpayload] at hexec
  have hchannels : u.channels = s.channels := by rw [harrives]
  have hclock : u.clock = s.clock := by rw [harrives]
  rw [takeSample_run e (by rw [hchannels]; exact hrun) hlen, hclock, checkFrame_late (x := x) e
    (by rw [State.modChannel_channels, upd_same, hchannels]; exact hexpect) hlate] at hexec
  refine ⟨_, hexec, ?_, fun d hd => ?_, ?_, ?_, ?_, ?_, ?_⟩
  · rw [arbitrate_channels, State.modChannel_channels, upd_same, hchannels]
  · rw [arbitrate_channels, State.modChannel_channels, upd_other _ _ _ _ hd, hchannels]
  · rw [arbitrate_counts, harrives]
    rfl
  · rw [arbitrate_insts, harrives]
    rfl
  · rw [arbitrate_slots, harrives]
    rfl
  · rw [arbitrate_ice, harrives]
    rfl
  · rw [arbitrate_items, harrives]
    rfl

/-! ### A request frame (R185, R197) -/

theorem offer_overflow (o : Offer) (s : State) : (offer o s).errors.mgmtOverflow = s.errors.mgmtOverflow := by
  unfold offer
  split
  · rfl
  · dsimp only
    split <;> rfl

theorem portHealth_overflow (p : Port) (good : Bool) (s : State) :
    (portHealth p good s).errors.mgmtOverflow = s.errors.mgmtOverflow := by
  by_cases h : healthOf (healthStep good (s.link.port p).health) = healthOf (s.link.port p).health
  · rw [portHealth_of_same h]
    rfl
  · rw [portHealth_of_change h]
    exact offer_overflow _ _

/-- A request behind a held reply joins the queue or is dropped (R197). -/
theorem offerRequest_of_held {s : State} (q : QueuedRequest) (h : s.mgmt.reply.isSome = true) : offerRequest q s =
    if s.mgmt.queue.length < 4 then { s with mgmt := { s.mgmt with queue := s.mgmt.queue ++ [q] } }
    else s.setMgmtOverflow := by
  by_cases hroom : s.mgmt.queue.length < 4
  · rw [offerRequest, if_pos (show s.mgmt.queue.length < Config.requestSize from hroom), takeWaiting_of_held (by exact h),
      if_pos hroom]
  · rw [offerRequest, if_neg (show ¬ s.mgmt.queue.length < Config.requestSize from hroom), takeWaiting_of_held (by exact h),
      if_neg hroom]

/-- Settles O15: the request is consumed, so it waits and is not forwarded. -/
theorem requestFrameIsQueued : Obligations.RequestFrameIsQueued := by
  intro bytes args code hi lo r s hlow hgood hkind hdest hnode hpayload hreply
  have harrives := portHealth_arrives .station true s
  have hlink := portHealth_link .station true s
  have hfield : (portHealth .station true s).link.field = s.link.field := by
    rw [hlink]
    rfl
  have hoverflow := portHealth_overflow .station true s
  have haddressed : (portHealth .station true s).addressed (parseFrame bytes) = true := by
    have hnodes : (portHealth .station true s).node = s.node := by rw [harrives]
    rw [State.addressed, hnodes, Bool.and_eq_true, decide_eq_true_iff, decide_eq_true_iff]
    exact ⟨hdest, hnode⟩
  have hk : (parseFrame bytes).kind = some .mgmtReq := parseFrame_kind (k := .mgmtReq) hkind
  have harrived : arrived .station bytes s = portHealth .station true s := by
    refine if_pos ?_
    rw [State.consumed, haddressed, hk]
    rfl
  have hused := exec_good (p := .station) hlow hgood
  rw [harrived] at hused
  generalize portHealth .station true s = u at harrives hfield hoverflow haddressed hused
  have hmgmt : u.mgmt = s.mgmt := by rw [harrives]
  have hconsume : alsoUsed .station (parseFrame bytes) u = offerRequest
      ⟨code, { source := BitVec.ofNat 6 (at8 bytes 1), tag := hi ++ lo, args := args }⟩ u := by
    have hp : (parseFrame bytes).payload = code :: hi :: lo :: args := hpayload
    unfold alsoUsed
    simp only [hk, haddressed, if_true, consumeRequest, hp]
    rfl
  rw [hconsume, offerRequest_of_held _ (by rw [hmgmt, hreply]; rfl), hmgmt] at hused
  refine ⟨_, hused, ?_⟩
  rw [arbitrate_mgmt, arbitrate_errors, arbitrate_tables, arbitrate_channels, arbitrate_insts, arbitrate_clock]
  have hport : ∀ v : State, v.link = u.link → s.link.field.sending.isSome = true → (arbitrate v).link.field = s.link.field := by
    intro v hv hbusy
    have hvfield : v.link.port .field = s.link.field := by
      rw [hv]
      exact hfield
    have h := arbitrate_busy (s := v) (p := .field) (by rw [hvfield]; exact hbusy)
    rw [hvfield] at h
    exact h
  by_cases hroom : s.mgmt.queue.length < 4
  · rw [if_pos hroom, if_pos hroom]
    refine ⟨hreply, rfl, ?_, hport _ rfl, ?_⟩
    · rw [decide_eq_false (Nat.not_le.mpr hroom), Bool.or_false]
      exact hoverflow
    · rw [harrives]
      exact ⟨rfl, rfl, rfl, rfl⟩
  · rw [if_neg hroom, if_neg hroom]
    refine ⟨(congrArg Mgmt.reply hmgmt).trans hreply, congrArg Mgmt.queue hmgmt, ?_, hport _ rfl, ?_⟩
    · rw [decide_eq_true (Nat.le_of_not_lt hroom), Bool.or_true]
      rfl
    · rw [harrives]
      exact ⟨rfl, rfl, rfl, rfl⟩

end Sys2Proof.Machine
end

section
/-! PROOFS. A GRID frame at its point (R107 to R113): triples gathered, gap events, and the block that completes. -/

namespace Sys2Proof.Machine

section
variable {s : State} {p : Fin 2} {e : Fin 64} {payload : List Byte}

/-! ### Triples of a frame -/

theorem samplesOf_length : ∀ {n : Nat} {bs : List Byte}, bs.length = 2 * n → (samplesOf bs).length = n
  | 0, bs, h => by rw [List.length_eq_zero_iff.mp h]; rfl
  | n + 1, a :: b :: rest, h => congrArg (· + 1) (samplesOf_length (n := n) (bs := rest) (by simp only [List.length_cons] at h; omega))
  | _ + 1, [_], h => by simp at h; omega
  | _ + 1, [], h => by simp at h

theorem triplesOf_length : ∀ {n : Nat} {vs : List Int}, vs.length = 3 * n → (triplesOf vs).length = n
  | 0, vs, h => by rw [List.length_eq_zero_iff.mp h]; rfl
  | n + 1, a :: b :: c :: rest, h =>
    congrArg (· + 1) (triplesOf_length (n := n) (vs := rest) (by simp only [List.length_cons] at h; omega))
  | _ + 1, [_, _], h => by simp at h; omega
  | _ + 1, [_], h => by simp at h; omega
  | _ + 1, [], h => by simp at h

theorem wellFormedGrid_iff (payload : List Byte) : wellFormedGrid payload = true ↔
    1 ≤ at8 payload 1 ∧ at8 payload 1 ≤ 32 ∧ payload.length = 2 + 6 * at8 payload 1 := by
  rw [wellFormedGrid, Bool.and_eq_true, Bool.and_eq_true, decide_eq_true_iff, decide_eq_true_iff, decide_eq_true_iff, and_assoc]

theorem triples_length (h : wellFormedGrid payload = true) :
    (triplesOf (samplesOf (payload.drop 2))).length = at8 payload 1 := by
  obtain ⟨-, -, hlen⟩ := (wellFormedGrid_iff payload).mp h
  refine triplesOf_length (samplesOf_length ?_)
  rw [List.length_drop, hlen]
  omega

/-! ### Triples gathered (R110, R113, R117) -/

theorem GridPoint.gather_append (h : Nat) (xs ys : List Triple) (x : GridPoint) :
    (x.gather h xs).gather h ys = x.gather h (xs ++ ys) := by
  simp only [GridPoint.gather, tabulate_get, List.length_append, List.zipIdx_append, List.foldl_append, Nat.add_assoc]

theorem GridPoint.gather_comp (h : Nat) (xs ys : List Triple) :
    GridPoint.gather h ys ∘ GridPoint.gather h xs = GridPoint.gather h (xs ++ ys) :=
  funext fun x => GridPoint.gather_append h xs ys x

theorem State.modPoint_modPoint (s : State) (p : Fin 2) (f g : GridPoint → GridPoint) :
    (s.modPoint p f).modPoint p g = s.modPoint p (g ∘ f) :=
  congrArg (fun v => { s with points := v }) (upd_upd s.points p f g)

/-- One triple gathered at an ASSEMBLING point, which may complete the block. -/
theorem pushTriple_eq {k : Latch} (x : Triple) (hin : s.points[p].intake = .assembling) (hlatch : s.points[p].latch = some k) :
    pushTriple p x s = if 639 ≤ s.points[p].index then completeBlock p k (s.modPoint p (GridPoint.gather k.hzc [x]))
      else s.modPoint p (GridPoint.gather k.hzc [x]) := by
  have hgather : s.modPoint p (fun q => { q with
      index := s.points[p].index + 1
      acc := tabulate 3 fun k => PhaseAcc.step s.points[p].index (x.phase k) q.acc[k]
      detectors := tabulate 3 fun j => (q.detectors[j]).step k.hzc s.points[p].index (x.phase j) }) =
      s.modPoint p (GridPoint.gather k.hzc [x]) :=
    congrArg (fun v => { s with points := v }) (upd_congr rfl)
  simp only [pushTriple, hin, hlatch, if_true, hgather]

/-- Triples that do not complete the block are gathered. -/
theorem pushTriples_gathered {k : Latch} (xs : List Triple) (hin : s.points[p].intake = .assembling)
    (hlatch : s.points[p].latch = some k) (hroom : s.points[p].index + xs.length < 640) :
    xs.foldl (fun s x => pushTriple p x s) s = s.modPoint p (GridPoint.gather k.hzc xs) := by
  induction xs generalizing s with
  | nil =>
    have hnone : GridPoint.gather k.hzc [] s.points[p] = s.points[p] := by
      have hacc : (tabulate 3 fun q => s.points[p].acc[q]) = s.points[p].acc := vector_ext_fin fun i => tabulate_get 3 _ i
      have hdet : (tabulate 3 fun q => s.points[p].detectors[q]) = s.points[p].detectors :=
        vector_ext_fin fun i => tabulate_get 3 _ i
      simp only [GridPoint.gather, List.length_nil, List.zipIdx_nil, List.foldl_nil, Nat.add_zero, hacc, hdet]
    exact congrArg (fun v => { s with points := v }) (upd_id hnone).symm
  | cons x xs ih =>
    rw [List.length_cons] at hroom
    have hone : pushTriple p x s = s.modPoint p (GridPoint.gather k.hzc [x]) := by
      rw [pushTriple_eq x hin hlatch, if_neg (by omega)]
    have hpoint : (s.modPoint p (GridPoint.gather k.hzc [x])).points[p] = s.points[p].gather k.hzc [x] := modPoint_same s p _
    rw [List.foldl_cons, hone, ih (by rw [hpoint]; exact hin) (by rw [hpoint]; exact hlatch)
      (by rw [hpoint]; simp only [GridPoint.gather, List.length_singleton]; omega), State.modPoint_modPoint]
    exact congrArg (s.modPoint p) (GridPoint.gather_comp k.hzc [x] xs)

/-- Triples that end with the block's last one complete it. -/
theorem pushTriples_completed {k : Latch} {xs : List Triple} (hin : s.points[p].intake = .assembling)
    (hlatch : s.points[p].latch = some k) (hne : xs ≠ []) (hend : s.points[p].index + xs.length = 640) :
    xs.foldl (fun s x => pushTriple p x s) s = completeBlock p k (s.modPoint p (GridPoint.gather k.hzc xs)) := by
  obtain ⟨ys, w, rfl⟩ := (List.eq_nil_or_concat' xs).resolve_left hne
  rw [List.length_append, List.length_singleton] at hend
  have hpoint : (s.modPoint p (GridPoint.gather k.hzc ys)).points[p] = s.points[p].gather k.hzc ys := modPoint_same s p _
  rw [List.foldl_append, pushTriples_gathered ys hin hlatch (by omega), List.foldl_cons, List.foldl_nil,
    pushTriple_eq w (by rw [hpoint]; exact hin) (by rw [hpoint]; exact hlatch),
    if_pos (by rw [hpoint]; simp only [GridPoint.gather]; omega), State.modPoint_modPoint]
  exact congrArg (fun f => completeBlock p k (s.modPoint p f)) (GridPoint.gather_comp k.hzc ys [w])

/-- What a taken frame leaves of the counts: it is counted. -/
theorem takeTriples_counts (p : Fin 2) (e : Fin 64) (payload : List Byte) (s : State) :
    (takeTriples p e payload s).counts = upd s.counts e fun k => { k with framesTaken := min 65535 (k.framesTaken + 1) } := by
  have hmoves : Moves { Footprint.nothing with point := fun _ => True, items := True, analysis := True }
      (countTaken e (s.modPoint p fun x => { x with expect := some (BitVec.ofNat 8 (at8 payload 0 + 1)) }))
      (takeTriples p e payload s) :=
    Moves.foldl (fun _ x => pushTriple_moves p x ⟨trivial, trivial, trivial⟩) .refl
  rw [hmoves.counts_stand id]
  rfl

theorem takeTriples_eq (p : Fin 2) (e : Fin 64) (payload : List Byte) (s : State) : takeTriples p e payload s =
    (triplesOf (samplesOf (payload.drop 2))).foldl (fun s x => pushTriple p x s)
      (countTaken e (s.modPoint p fun x => { x with expect := some (BitVec.ofNat 8 (at8 payload 0 + 1)) })) := rfl

/-- A frame taken within a block (R110, R117). -/
theorem takeTriples_gathered {k : Latch} {x : GridPoint} (e : Fin 64)
    (hx : x = { s.points[p] with expect := some (BitVec.ofNat 8 (at8 payload 0 + 1)) })
    (hin : x.intake = .assembling) (hlatch : x.latch = some k) (hgood : wellFormedGrid payload = true)
    (hroom : x.index + at8 payload 1 < 640) :
    (takeTriples p e payload s).points[p] = x.gather k.hzc (triplesOf (samplesOf (payload.drop 2))) := by
  have hpoint : (countTaken e (s.modPoint p fun x => { x with expect := some (BitVec.ofNat 8 (at8 payload 0 + 1)) })).points[p] = x := by
    rw [hx]
    exact modPoint_same s p _
  rw [takeTriples_eq, pushTriples_gathered _ (by rw [hpoint]; exact hin) (by rw [hpoint]; exact hlatch)
    (by rw [hpoint, triples_length hgood]; exact hroom), modPoint_same, hpoint]

/-- A frame that completes the block of an unmarked point (R122, R125). -/
theorem takeTriples_completed {k : Latch} {x : GridPoint} (e : Fin 64)
    (hx : x = { s.points[p] with expect := some (BitVec.ofNat 8 (at8 payload 0 + 1)) })
    (hin : x.intake = .assembling) (hlatch : x.latch = some k) (hgood : wellFormedGrid payload = true)
    (hend : x.index + at8 payload 1 = 640) (hmark : x.marked = false) :
    ∃ y : GridPoint, y = x.gather k.hzc (triplesOf (samplesOf (payload.drop 2))) ∧
      (takeTriples p e payload s).points[p].intake = .assembling ∧ (takeTriples p e payload s).points[p].expect = x.expect ∧
      (takeTriples p e payload s).points[p].index = 0 ∧ (takeTriples p e payload s).points[p].latch = some (s.latchFor p) ∧
      (takeTriples p e payload s).points[p].lastResult = some (blockResult k y.acc y.detectors s.clock.counter) := by
  refine ⟨_, rfl, ?_⟩
  have hpoint : (countTaken e (s.modPoint p fun x => { x with expect := some (BitVec.ofNat 8 (at8 payload 0 + 1)) })).points[p] = x := by
    rw [hx]
    exact modPoint_same s p _
  have hlen := triples_length hgood
  obtain ⟨hone, -, -⟩ := (wellFormedGrid_iff payload).mp hgood
  have hne : triplesOf (samplesOf (payload.drop 2)) ≠ [] := by
    intro h
    rw [h, List.length_nil] at hlen
    omega
  have hshell : (countTaken e (s.modPoint p fun x => { x with expect := some (BitVec.ofNat 8 (at8 payload 0 + 1)) })).shell =
    s.shell := rfl
  rw [takeTriples_eq]
  generalize triplesOf (samplesOf (payload.drop 2)) = xs at hlen hne
  generalize countTaken e (s.modPoint p fun x => { x with expect := some (BitVec.ofNat 8 (at8 payload 0 + 1)) }) = u at hpoint hshell
  rw [pushTriples_completed (by rw [hpoint]; exact hin) (by rw [hpoint]; exact hlatch) hne (by rw [hpoint, hlen]; exact hend)]
  have hgathered : (u.modPoint p (GridPoint.gather k.hzc xs)).points[p] = x.gather k.hzc xs := by rw [modPoint_same, hpoint]
  have hfrom : (u.modPoint p (GridPoint.gather k.hzc xs)).latchFor p = s.latchFor p := State.latchFor_of_shell hshell p
  have hnow : (u.modPoint p (GridPoint.gather k.hzc xs)).now = s.clock.counter :=
    congrArg Clock.counter (State.clock_of_shell hshell)
  generalize u.modPoint p (GridPoint.gather k.hzc xs) = v at hgathered hfrom hnow
  have hdone := congrArg (fun w : Vector GridPoint 2 => w[p]) (completeBlock_points p k v)
  dsimp only at hdone
  rw [upd_same, hgathered, hfrom, hnow, Function.comp_apply, judged_eq, GridPoint.finished,
    if_neg (show ¬ (x.gather k.hzc xs).marked = true by rw [show (x.gather k.hzc xs).marked = false from hmark]; exact Bool.false_ne_true)]
    at hdone
  rw [hdone]
  exact ⟨hin, rfl, rfl, rfl, rfl⟩

/-! ### A new block, and a gap event (R109) -/

/-- A point at the start of its first block: no triple gathered, the armed flags clear. -/
theorem nextBlock_dropBlock (l : Latch) (x : GridPoint) : x.dropBlock.nextBlock l = { x with
    index := 0, latch := some l, acc := Vector.replicate 3 (Vector.replicate 31 (0, 0))
    detectors := Vector.replicate 3 ⟨false, []⟩ } := by
  have hdetectors : (tabulate 3 fun k => { x.dropBlock.detectors[k] with list := [] }) = Vector.replicate 3 ⟨false, []⟩ :=
    vector_ext_fin fun i => by
      rw [tabulate_get]
      simp [GridPoint.dropBlock, Detector.init]
  rw [GridPoint.nextBlock, hdetectors]
  rfl

/-- A gap event at a point that is not marked: counted, and a new block started. -/
theorem gap_unmarked (e : Fin 64) (hmark : s.points[p].marked = false) :
    discardBlock p (countGap e s) =
      (countGap e s).modPoint p fun x => x.dropBlock.nextBlock (s.latchFor p) := by
  have hm : ¬ (countGap e s).points[p].marked = true := by
    rw [show (countGap e s).points = s.points from rfl, hmark]
    exact Bool.false_ne_true
  rw [discardBlock, if_neg hm]
  exact State.modPoint_modPoint _ _ _ _

/-- A gap event at a point marked to suspend: counted, and the point SUSPENDED. -/
theorem gap_marked (e : Fin 64) (hmark : s.points[p].marked = true) :
    (discardBlock p (countGap e s)).points[p] = s.points[p].rest .suspended ∧
    (discardBlock p (countGap e s)).counts =
      upd s.counts e fun k => { k with gapEvents := min 65535 (k.gapEvents + 1) } := by
  have hdo : discardBlock p (countGap e s) = suspendCheck ((countGap e s).modPoint p (GridPoint.rest .suspended)) :=
    if_pos hmark
  have hcounts := (suspendCheck_moves (W := { Footprint.nothing with analysis := True })
    (s := (countGap e s).modPoint p (GridPoint.rest .suspended)) trivial .refl).counts_stand id
  rw [hdo, suspendCheck_points, hcounts]
  exact ⟨modPoint_same _ p _, rfl⟩

/-- The counts of a gap event whose frame is taken. -/
theorem upd_counts_gap_taken (s : State) (e : Fin 64) :
    upd (countGap e s).counts e (fun k => { k with framesTaken := min 65535 (k.framesTaken + 1) }) =
      upd s.counts e fun k =>
        { framesTaken := min 65535 (k.framesTaken + 1), gapEvents := min 65535 (k.gapEvents + 1) } := by
  have hgap : (countGap e s).counts = upd s.counts e fun k => { k with gapEvents := min 65535 (k.gapEvents + 1) } := rfl
  rw [hgap, upd_upd]
  rfl

/-! ### A frame handed to an ASSEMBLING point -/

section
variable {m : Byte} {d : Nat}

theorem checkGrid_late (e : Fin 64) (hm : s.points[p].expect = some m) (hd : d = (at8 payload 0 + 256 - m.toNat) % 256)
    (hlate : 128 ≤ d) : checkGrid p e payload s = s := by
  subst hd
  unfold checkGrid
  simp only [hm, Option.getD_some, sequence_ahead, if_pos hlate]

theorem checkGrid_inOrder (e : Fin 64) (hm : s.points[p].expect = some m) (hd : d = (at8 payload 0 + 256 - m.toNat) % 256)
    (hzero : d = 0) (hgood : wellFormedGrid payload = true) : checkGrid p e payload s = takeTriples p e payload s := by
  rw [hd] at hzero
  have hearly : ¬ 128 ≤ 0 := by decide
  unfold checkGrid
  simp only [hm, Option.getD_some, sequence_ahead, hzero, if_neg hearly, hgood, if_true]

theorem checkGrid_missing (e : Fin 64) (hm : s.points[p].expect = some m) (hd : d = (at8 payload 0 + 256 - m.toNat) % 256)
    (hone : 1 ≤ d) (hearly : d < 128) (hgood : wellFormedGrid payload = true) : checkGrid p e payload s =
      if (discardBlock p (countGap e s)).points[p].intake = .assembling then
        takeTriples p e payload (discardBlock p (countGap e s))
      else discardBlock p (countGap e s) := by
  subst hd
  have hnot : ¬ 128 ≤ (at8 payload 0 + 256 - m.toNat) % 256 := by omega
  have hne : ¬ (at8 payload 0 + 256 - m.toNat) % 256 = 0 := by omega
  unfold checkGrid
  simp only [hm, Option.getD_some, sequence_ahead, if_neg hnot, if_neg hne, hgood, if_true]

theorem checkGrid_malformed (e : Fin 64) (hm : s.points[p].expect = some m) (hd : d = (at8 payload 0 + 256 - m.toNat) % 256)
    (hearly : d < 128) (hbad : wellFormedGrid payload = false) : checkGrid p e payload s =
      if (discardBlock p (countGap e s)).points[p].intake = .assembling then
        (discardBlock p (countGap e s)).modPoint p fun x => { x with expect := some (BitVec.ofNat 8 (at8 payload 0 + 1)) }
      else discardBlock p (countGap e s) := by
  subst hd
  have hnot : ¬ 128 ≤ (at8 payload 0 + 256 - m.toNat) % 256 := by omega
  unfold checkGrid
  simp only [hm, Option.getD_some, sequence_ahead, if_neg hnot, hbad, Bool.false_eq_true, if_false]

end

/-! ### A frame handed to a point, by intake state -/

/-- The idle timer restarts (R111). -/
def GridPoint.restart (now : Nat) (x : GridPoint) : GridPoint := { x with idleExpiry := some (now + 2000) }

theorem takeGrid_off (e : Fin 64) (h : s.points[p].intake = .unbound ∨ s.points[p].intake = .suspended) :
    takeGrid p e payload s = s := by
  unfold takeGrid
  rcases h with h | h
  · simp only [h]
  · simp only [h]

theorem takeGrid_idle_malformed (e : Fin 64) (h : s.points[p].intake = .idle) (hbad : wellFormedGrid payload = false) :
    takeGrid p e payload s = s := by
  unfold takeGrid
  simp only [h, hbad, Bool.false_eq_true, if_false]

theorem takeGrid_idle (e : Fin 64) (h : s.points[p].intake = .idle) (hgood : wellFormedGrid payload = true) :
    takeGrid p e payload s = takeTriples p e payload (s.modPoint p fun x =>
      GridPoint.nextBlock (s.latchFor p) { (x.restart s.clock.counter).dropBlock with intake := .assembling }) := by
  have hstart : startBlock p (s.modPoint p fun x => { x.dropBlock with
      intake := .assembling, idleExpiry := some (s.now + Config.gridIdleMs) }) =
      s.modPoint p fun x =>
        GridPoint.nextBlock (s.latchFor p) { (x.restart s.clock.counter).dropBlock with intake := .assembling } :=
    State.modPoint_modPoint _ _ _ _
  rw [← hstart]
  unfold takeGrid
  simp only [h, hgood, if_true]

theorem takeGrid_assembling (e : Fin 64) (h : s.points[p].intake = .assembling) : takeGrid p e payload s =
    if payload.length < 2 then s.modPoint p (GridPoint.restart s.clock.counter)
    else checkGrid p e payload (s.modPoint p (GridPoint.restart s.clock.counter)) := by
  unfold takeGrid
  simp only [h]
  rfl

end

/-- Settles O14: each case of `takeGrid`, the triples gathered as one write of the point. -/
theorem gridFrameAtPoint : Obligations.GridFrameAtPoint := by
  intro bytes payload e p n good x y z l xs s hands hx hn hgood hxs hl hy hz
  obtain ⟨u, harrives, hexec⟩ := exec_hands hands (.inr (.inl rfl))
  obtain ⟨-, -, hkind, hpayload, -, hfeed⟩ := hands
  rw [handOverFrame_grid (by rw [harrives]; exact hfeed) hkind, ← hpayload] at hexec
  have hpoints : u.points = s.points := by rw [harrives]
  have hcounts : u.counts = s.counts := by rw [harrives]
  have hcounter : u.clock.counter = s.clock.counter := by rw [harrives]
  have hlatch : u.latchFor p = l := by
    rw [hl, harrives]
    rfl
  have hformed : good ↔ wellFormedGrid payload = true := by rw [hgood, wellFormedGrid_iff, hn]
  have hmalformed : ¬ good → wellFormedGrid payload = false := fun h => by
    rw [← Bool.not_eq_true, ← hformed]
    exact h
  rw [← hpoints] at hx
  refine ⟨_, hexec, fun q hq => ?_, fun h => ?_, fun hoff => ?_, fun hidle h => ?_, fun hidle h => ?_,
    fun m d hin hexpect hd => ?_⟩
  · rw [arbitrate_points, ← hpoints]
    exact (takeGrid_moves (W := { Footprint.nothing with point := (· = p), items := True, analysis := True, counts := True })
      p e payload ⟨rfl, trivial, trivial⟩ trivial (s := u) .refl).point_stands hq
  · rw [hxs, hn]
    exact triples_length (hformed.mp h)
  · rw [arbitrate_points, arbitrate_counts, takeGrid_off e (by rw [← hx]; exact hoff), hx]
    exact ⟨rfl, hcounts⟩
  · have hroom : 0 + at8 payload 1 < 640 := by
      obtain ⟨-, hmax, -⟩ := (wellFormedGrid_iff payload).mp (hformed.mp h)
      omega
    rw [arbitrate_points, arbitrate_counts, takeGrid_idle e (by rw [← hx]; exact hidle) (hformed.mp h), takeTriples_counts, ← hcounts]
    refine ⟨?_, rfl⟩
    have hstart : z = { (u.modPoint p fun x => GridPoint.nextBlock (u.latchFor p)
        { (x.restart u.clock.counter).dropBlock with intake := .assembling }).points[p] with
        expect := some (BitVec.ofNat 8 (at8 payload 0 + 1)) } := by
      rw [modPoint_same, ← hx, hz, hy, hlatch, hcounter]
      have hfirst := nextBlock_dropBlock l { x.restart s.clock.counter with intake := .assembling }
      exact congrArg (fun w : GridPoint => { w with expect := some (BitVec.ofNat 8 (at8 payload 0 + 1)) }) hfirst.symm
    have hzlatch : z.latch = some l := by rw [hz]
    rw [hxs]
    exact takeTriples_gathered e hstart (by rw [hz]) hzlatch (hformed.mp h) (by rw [hz]; exact hroom)
  · rw [arbitrate_points, arbitrate_counts, takeGrid_idle_malformed e (by rw [← hx]; exact hidle) (hmalformed h), hx]
    exact ⟨rfl, hcounts⟩
  · have htake := takeGrid_assembling (payload := payload) e (s := u) (p := p) (by rw [← hx]; exact hin)
    have hpoint : (u.modPoint p (GridPoint.restart u.clock.counter)).points[p] = { y with expect := x.expect } := by
      rw [modPoint_same, ← hx, hy, hcounter]
      rfl
    have hvcounts : (u.modPoint p (GridPoint.restart u.clock.counter)).counts = s.counts := hcounts
    have hvlatch : (u.modPoint p (GridPoint.restart u.clock.counter)).latchFor p = l := hlatch
    have hvcounter : (u.modPoint p (GridPoint.restart u.clock.counter)).clock.counter = s.clock.counter := hcounter
    rw [arbitrate_points, arbitrate_counts, htake]
    clear htake hexec
    generalize u.modPoint p (GridPoint.restart u.clock.counter) = v at hpoint hvcounts hvlatch hvcounter
    have hvexpect : v.points[p].expect = some m := by rw [hpoint]; exact hexpect
    have hvmark : v.points[p].marked = x.marked := by rw [hpoint, hy]
    have hyin : y.intake = .assembling := by rw [hy]; exact hin
    have hyx : y.index = x.index ∧ y.latch = x.latch ∧ y.marked = x.marked := by rw [hy]; exact ⟨rfl, rfl, rfl⟩
    obtain ⟨hyindex, hylatch, hymark⟩ := hyx
    have hyexpect : y.expect = some (BitVec.ofNat 8 (at8 payload 0 + 1)) := by rw [hy]
    have hypoint : y = { v.points[p] with expect := some (BitVec.ofNat 8 (at8 payload 0 + 1)) } := by
      rw [hpoint]
      exact congrArg (fun w => { y with expect := w }) hyexpect
    have hlong : good → ¬ payload.length < 2 := fun h => by
      obtain ⟨-, -, hlen⟩ := (wellFormedGrid_iff payload).mp (hformed.mp h)
      omega
    have hgap := gap_unmarked (s := v) (p := p) e
    have hgapMarked := gap_marked (s := v) (p := p) e
    have hnext : x.marked = false → (discardBlock p (countGap e v)).points[p] = { z with expect := x.expect } := by
      intro hmark
      rw [hgap (hvmark.trans hmark), modPoint_same, nextBlock_dropBlock, hvlatch,
        show (countGap e v).points = v.points from rfl, hpoint, hz, ← hyin]
    refine ⟨fun hlate => ?_, fun k hk h hzero hroom => ?_, fun k hk h hzero hend hmark => ?_, fun h hzero => ?_,
      fun h hone hearly hmark => ?_, fun h hlen hearly hmark => ?_, fun hmissing hearly hmark => ?_⟩
    · have hstands : (if payload.length < 2 then v else checkGrid p e payload v) = v := by
        by_cases hshort : payload.length < 2
        · rw [if_pos hshort]
        · rw [if_neg hshort, checkGrid_late e hvexpect hd (hlate.resolve_right hshort)]
      rw [hstands]
      exact ⟨hpoint, hvcounts⟩
    · rw [if_neg (hlong h), checkGrid_inOrder e hvexpect hd hzero (hformed.mp h), hxs]
      exact takeTriples_gathered e hypoint hyin (hylatch.trans hk) (hformed.mp h) (by rw [hyindex, ← hn]; exact hroom)
    · rw [if_neg (hlong h), checkGrid_inOrder e hvexpect hd hzero (hformed.mp h)]
      obtain ⟨w, hw, hintake, hexp, hindex, hnew, hlast⟩ := takeTriples_completed e hypoint hyin (hylatch.trans hk) (hformed.mp h)
        (by rw [hyindex, ← hn]; exact hend) (hymark.trans hmark)
      rw [← hxs] at hw
      rw [hvlatch] at hnew
      rw [hw, hvcounter] at hlast
      exact ⟨hintake, hexp, hindex, hnew, hlast⟩
    · rw [if_neg (hlong h), checkGrid_inOrder e hvexpect hd hzero (hformed.mp h), takeTriples_counts, hvcounts]
    · have hgap := hgap (hvmark.trans hmark)
      have hroom : 0 + at8 payload 1 < 640 := by
        obtain ⟨-, hmax, -⟩ := (wellFormedGrid_iff payload).mp (hformed.mp h)
        omega
      have hnext := hnext hmark
      rw [if_neg (hlong h), checkGrid_missing e hvexpect hd hone hearly (hformed.mp h), if_pos (by rw [hnext, hz])]
      have hzpoint : z = { (discardBlock p (countGap e v)).points[p] with
          expect := some (BitVec.ofNat 8 (at8 payload 0 + 1)) } := by
        rw [hnext]
        have hze : z.expect = some (BitVec.ofNat 8 (at8 payload 0 + 1)) := by rw [hz]; exact hyexpect
        exact congrArg (fun w => { z with expect := w }) hze
      have hzlatch : z.latch = some l := by rw [hz]
      refine ⟨?_, ?_⟩
      · rw [hxs]
        exact takeTriples_gathered e hzpoint (by rw [hz]) hzlatch (hformed.mp h) (by rw [hz]; exact hroom)
      · have hcountsGap : (discardBlock p (countGap e v)).counts = (countGap e v).counts := by rw [hgap]; rfl
        rw [takeTriples_counts, hcountsGap, upd_counts_gap_taken, hvcounts]
    · have hgap := hgap (hvmark.trans hmark)
      have hnext := hnext hmark
      rw [if_neg (Nat.not_lt.mpr hlen), checkGrid_malformed e hvexpect hd hearly (hmalformed h), if_pos (by rw [hnext, hz])]
      refine ⟨?_, ?_⟩
      · rw [modPoint_same, hnext]
        have hze : z.expect = some (BitVec.ofNat 8 (at8 payload 0 + 1)) := by rw [hz]; exact hyexpect
        exact (congrArg (fun w => { z with expect := w }) hze).symm
      · rw [← hvcounts, hgap]
        rfl
    · obtain ⟨hrest, hcount⟩ := hgapMarked (hvmark.trans hmark)
      have hleft : (discardBlock p (countGap e v)).points[p].intake ≠ .assembling := by rw [hrest]; exact nofun
      have hdo : (if payload.length < 2 then v else checkGrid p e payload v) = discardBlock p (countGap e v) := by
        by_cases h : good
        · have hone : 1 ≤ d := hmissing.elim And.right fun hm => absurd h hm.1
          rw [if_neg (hlong h), checkGrid_missing e hvexpect hd hone hearly (hformed.mp h), if_neg hleft]
        · have hlen : 2 ≤ payload.length := hmissing.elim (fun hm => absurd hm.1 h) And.right
          rw [if_neg (Nat.not_lt.mpr hlen), checkGrid_malformed e hvexpect hd hearly (hmalformed h), if_neg hleft]
      rw [hdo, hcount, hrest, hvcounts, hpoint, hy]
      exact ⟨rfl, rfl, rfl, rfl, rfl, rfl, rfl⟩

end Sys2Proof.Machine
end

section
/-! PROOFS. Entry records (R215): the fields of each record by offset, and that staging a record written from an entry in
range gives that entry. -/

namespace Sys2Proof.Machine

/-! ### Fields of a run of bytes -/

section
variable {bs a b f : List Byte} {k n : Nat}

/-- The bytes `f` stand in `bs` from offset `k` on. -/
def Holds (bs : List Byte) (k : Nat) (f : List Byte) : Prop := (bs.drop k).take f.length = f

theorem Holds.at8 (h : Holds bs k f) {j : Nat} (hj : j < f.length) : at8 bs (k + j) = at8 f j := by
  unfold Holds at h
  rw [← at8_drop]
  conv_rhs => rw [← h]
  simp only [Machine.at8, List.getD_eq_getElem?_getD, List.getElem?_take, if_pos hj]

/-- What stands in a part stands in the whole, at the part's offset. -/
theorem Holds.inner (h : Holds bs k a) (ha : Holds a n f) (hfit : n + f.length ≤ a.length) : Holds bs (k + n) f := by
  unfold Holds at h ha ⊢
  rw [← List.drop_drop]
  rw [← h, List.drop_take, List.take_take] at ha
  rwa [show min f.length (a.length - n) = f.length by omega] at ha

theorem Holds.append_right (h : Holds b n f) : Holds (a ++ b) (a.length + n) f := by
  unfold Holds at h ⊢
  rwa [List.drop_length_add_append]

theorem Holds.left (a b : List Byte) : Holds (a ++ b) 0 a := by
  unfold Holds
  rw [List.drop_zero, List.take_left]

theorem Holds.right (a b : List Byte) : Holds (a ++ b) a.length b := by
  unfold Holds
  rw [List.drop_left, List.take_length]

/-! ### Numbers -/

theorem Holds.u8_mod (h : Holds bs k (u8 n)) : Machine.at8 bs k = n % 256 := by
  have h0 := h.at8 (j := 0) (by exact Nat.zero_lt_one)
  rw [Nat.add_zero] at h0
  rw [h0]
  exact BitVec.toNat_ofNat n 8

theorem Holds.u16_mod (h : Holds bs k (u16 n)) : at16 bs k = n % 65536 := by
  have hhigh : Machine.at8 bs (k + 0) = n / 256 % 256 :=
    (h.inner (n := 0) (Holds.left _ _) (by exact Nat.le_add_right 1 1)).u8_mod
  have hlow : Machine.at8 bs (k + 1) = n % 256 := (h.inner (n := 1) (Holds.right (Machine.u8 _) _) (by exact Nat.le_refl 2)).u8_mod
  rw [Nat.add_zero] at hhigh
  rw [at16, hhigh, hlow]
  omega

theorem Holds.u32_mod (h : Holds bs k (u32 n)) : at32 bs k = n % 4294967296 := by
  have hhigh : at16 bs (k + 0) = n / 65536 % 65536 :=
    (h.inner (n := 0) (Holds.left _ _) (by exact Nat.le_add_right 2 2)).u16_mod
  have hlow : at16 bs (k + 2) = n % 65536 := (h.inner (n := 2) (Holds.right (Machine.u16 _) _) (by exact Nat.le_refl 4)).u16_mod
  rw [Nat.add_zero] at hhigh
  rw [at32, hhigh, hlow]
  omega

theorem Holds.u48_mod (h : Holds bs k (u48 n)) : at48 bs k = n % 2 ^ 48 := by
  have hhigh : at16 bs (k + 0) = n / 4294967296 % 65536 :=
    (h.inner (n := 0) (Holds.left _ _) (by exact Nat.le_add_right 2 4)).u16_mod
  have hlow : at32 bs (k + 2) = n % 4294967296 := (h.inner (n := 2) (Holds.right (Machine.u16 _) _) (by exact Nat.le_refl 6)).u32_mod
  rw [Nat.add_zero] at hhigh
  rw [at48, hhigh, hlow]
  omega

theorem Holds.u8 (h : Holds bs k (u8 n)) (hn : n < 256) : Machine.at8 bs k = n := h.u8_mod.trans (Nat.mod_eq_of_lt hn)

theorem Holds.u16 (h : Holds bs k (u16 n)) (hn : n < 65536) : at16 bs k = n := h.u16_mod.trans (Nat.mod_eq_of_lt hn)

theorem Holds.u32 (h : Holds bs k (u32 n)) (hn : n < 4294967296) : at32 bs k = n := h.u32_mod.trans (Nat.mod_eq_of_lt hn)

theorem Holds.u48 (h : Holds bs k (u48 n)) (hn : n < 2 ^ 48) : at48 bs k = n := h.u48_mod.trans (Nat.mod_eq_of_lt hn)

theorem Holds.i16 {v : Int} (h : Holds bs k (i16 v)) (hv : Fits16 v) : sat16 bs k = v := by
  obtain ⟨hlo, hhi⟩ := hv
  have hread : at16 bs k = (v % 65536).toNat % 65536 := Holds.u16_mod h
  rw [sat16, hread]
  split <;> omega

/-! ### Listed choices, indexes and items that may be absent -/

theorem Holds.yesNo {v : Bool} (h : Holds bs k (yesNo v)) : bool? (Machine.at8 bs k) = some v := by
  cases v with
  | false => rw [(show Holds bs k (Machine.u8 0) from h).u8 (by decide)]; rfl
  | true => rw [(show Holds bs k (Machine.u8 1) from h).u8 (by decide)]; rfl

theorem Holds.index {m : Nat} {i : Fin m} (h : Holds bs k (Machine.u8 i.1)) (hm : m ≤ 256) :
    index? m (Machine.at8 bs k) = some i := by
  rw [h.u8 (by omega)]
  exact index?_of_lt i.2

/-- An index that may be none as one byte: FFh for none. -/
theorem indexOrNone_eq {m : Nat} (o : Option (Fin m)) : indexOrNone (o.map Fin.val) = Machine.u8 (o.elim 255 Fin.val) := by
  cases o <;> rfl

theorem Holds.indexOrNone {m : Nat} {o : Option (Fin m)} (h : Holds bs k (Machine.u8 (o.elim 255 Fin.val))) (hm : m ≤ 255) :
    indexOrNone? m (Machine.at8 bs k) = some o := by
  cases o with
  | none => rw [h.u8 (show 255 < 256 by decide)]; rfl
  | some i =>
    have hlt : i.1 < 255 := by omega
    rw [h.u8 (show i.1 < 256 by omega)]
    change indexOrNone? m i.1 = some (some i)
    rw [indexOrNone?, if_neg (by omega), index?_of_lt i.2]
    rfl

/-- An item that may be absent as presence byte and number: an absent one is carried as 0 (log 11). -/
theorem optional_u32_eq (o : Option Nat) : optional 4 Machine.u32 o = Machine.u8 (o.elim 0 fun _ => 1) ++ Machine.u32 (o.getD 0) := by
  cases o <;> rfl

theorem optional_u16_eq (o : Option Nat) : optional 2 Machine.u16 o = Machine.u8 (o.elim 0 fun _ => 1) ++ Machine.u16 (o.getD 0) := by
  cases o <;> rfl

theorem Holds.optional {o : Option Nat} {v : Nat} (h : Holds bs k (Machine.u8 (o.elim 0 fun _ => 1))) (hv : v = o.getD 0) :
    optional? bs k v = some o := by
  cases o with
  | none => rw [optional?, h.u8 (show 0 < 256 by decide)]; rfl
  | some n => rw [optional?, h.u8 (show 1 < 256 by decide), hv]; rfl

end

/-! ### Values in range stand unadjusted -/

theorem clampNat_of_mem {lo hi v : Nat} (hlo : lo ≤ v) (hhi : v ≤ hi) : clampNat lo hi v = v := by
  rw [clampNat, min_eq_right hhi, max_eq_right hlo]

theorem clampInt_of_mem {lo hi v : Int} (hlo : lo ≤ v) (hhi : v ≤ hi) : clampInt lo hi v = v := by
  rw [clampInt, if_neg (Int.not_lt.mpr hlo), if_neg (Int.not_lt.mpr hhi)]

theorem vector_toList_four {α : Type} (v : Vector α 4) : v.toList = [v[0], v[1], v[2], v[3]] := by
  obtain ⟨⟨l⟩, h⟩ := v
  match l, h with
  | [a, b, c, d], _ => rfl

theorem vector_four {α : Type} (v : Vector α 4) : #v[v[0], v[1], v[2], v[3]] = v := by
  obtain ⟨⟨l⟩, h⟩ := v
  match l, h with
  | [a, b, c, d], _ => rfl

theorem vector_toList_three {α : Type} (v : Vector α 3) : v.toList = [v[0], v[1], v[2]] := by
  obtain ⟨⟨l⟩, h⟩ := v
  match l, h with
  | [a, b, c], _ => rfl

theorem vector_three {α : Type} (v : Vector α 3) : #v[v[0], v[1], v[2]] = v := by
  obtain ⟨⟨l⟩, h⟩ := v
  match l, h with
  | [a, b, c], _ => rfl

/-! ### Stream, turbine and global records -/

/-- Role byte and target byte of a feed, and what they read back as (R21). -/
theorem StreamFeed.bytes_eq (feed : StreamFeed) : ∃ (role : Nat) (target : Byte), feed.bytes = u8 role ++ [target] ∧
    role < 256 ∧ feedOf role target = some feed := by
  have hindex : ∀ {m : Nat} (i : Fin m), m ≤ 256 → index? m (BitVec.ofNat 8 i.1).toNat = some i := by
    intro m i hm
    rw [BitVec.toNat_ofNat, Nat.mod_eq_of_lt (show i.1 < 2 ^ 8 by omega)]
    exact index?_of_lt i.2
  cases feed with
  | vibChannel c => exact ⟨0, BitVec.ofNat 8 c.1, rfl, by decide, by simp only [feedOf, if_true, hindex c (by decide)]; rfl⟩
  | gridPoint p => exact ⟨1, BitVec.ofNat 8 p.1, rfl, by decide, by
      rw [feedOf, if_neg (by decide), if_pos rfl, hindex p (by decide)]; rfl⟩
  | turbineStatus k => exact ⟨2, BitVec.ofNat 8 k.1, rfl, by decide, by
      rw [feedOf, if_neg (by decide), if_neg (by decide), if_pos rfl, hindex k (by decide)]; rfl⟩
  | ignore x => exact ⟨3, x, rfl, by decide, rfl⟩

theorem stageStream_bytes (e : StreamEntry) : stageStream (e.bytes ++ [0, 0, 0, 0, 0, 0]) = .stored e false := by
  obtain ⟨role, target, hfeed, hrole, hof⟩ := e.feed.bytes_eq
  rw [StreamEntry.bytes, hfeed]
  obtain ⟨bs, hbs⟩ : ∃ bs, bs = yesNo e.valid ++ u8 e.nodeMatch.toNat ++ u8 e.nodeMask.toNat ++ [e.tagMatch, e.tagMask] ++
    (u8 role ++ [target]) ++ [0, 0, 0, 0, 0, 0] := ⟨_, rfl⟩
  rw [← hbs]
  have hvalid : Holds bs 0 (yesNo e.valid) := by rw [hbs]; rfl
  have hnode : Holds bs 1 (u8 e.nodeMatch.toNat) := by rw [hbs]; rfl
  have hmask : Holds bs 2 (u8 e.nodeMask.toNat) := by rw [hbs]; rfl
  have htag : bs.getD 3 0 = e.tagMatch := by rw [hbs]; rfl
  have htagMask : bs.getD 4 0 = e.tagMask := by rw [hbs]; rfl
  have hrole' : Holds bs 5 (u8 role) := by rw [hbs]; rfl
  have htarget : bs.getD 6 0 = target := by rw [hbs]; rfl
  have htaken : Holds bs 7 (u8 0) := by rw [hbs]; rfl
  have hgaps : Holds bs 10 (u8 0) := by rw [hbs]; rfl
  have habsent : bool? 0 = some false := rfl
  have hnodeFits := e.nodeMatch.isLt
  have hmaskFits := e.nodeMask.isLt
  simp only [stageStream, hvalid.yesNo, hnode.u8 (by omega), hmask.u8 (by omega), htag, htagMask, hrole'.u8 hrole,
    htarget, htaken.u8 (by decide), hgaps.u8 (by decide), hof, habsent, Nat.zero_ne_one, or_self, if_false,
    BitVec.ofNat_toNat, BitVec.setWidth_eq]
  rw [decide_eq_false (by omega), decide_eq_false (by omega)]
  rfl

theorem stageTurbine_bytes {e : TurbineEntry} (h : e.InRange) : stageTurbine e.bytes = .stored e false := by
  obtain ⟨hcontroller, hmask⟩ := h
  obtain ⟨bs, hbs⟩ : ∃ bs, bs = e.bytes := ⟨_, rfl⟩
  rw [← hbs]
  simp only [TurbineEntry.bytes, indexOrNone_eq] at hbs
  have hvalid : Holds bs 0 (yesNo e.valid) := by rw [hbs]; rfl
  have hpoint : Holds bs 1 (u8 (e.gridPoint.elim 255 Fin.val)) := by rw [hbs]; rfl
  have hnode : Holds bs 2 (u8 e.controller.toNat) := by rw [hbs]; rfl
  have henable : Holds bs 3 (yesNo e.advisoryEnable) := by rw [hbs]; rfl
  have hgiven : Holds bs 4 (u16 e.noticeMask.toNat) := by rw [hbs]; rfl
  simp only [stageTurbine, hvalid.yesNo, hpoint.indexOrNone (by decide), henable.yesNo,
    hnode.u8 (hcontroller.trans_lt (by decide)), hgiven.u16 e.noticeMask.isLt, if_neg (Nat.not_lt.mpr hcontroller),
    BitVec.ofNat_toNat, BitVec.setWidth_eq, hmask, ne_eq, not_true_eq_false, decide_false]

theorem DeliveryMode.all_code (m : DeliveryMode) : m.code < 256 ∧ DeliveryMode.all[m.code]? = some m := by
  cases m <;> exact ⟨by decide, rfl⟩

theorem stageGlobal_bytes {e : GlobalRecord} (h : e.InRange) : stageGlobal e.bytes = .stored e false := by
  obtain ⟨hmask, hgrace⟩ := h
  obtain ⟨hcode, hof⟩ := e.mode.all_code
  obtain ⟨bs, hbs⟩ : ∃ bs, bs = e.bytes := ⟨_, rfl⟩
  rw [← hbs]
  have hmode : Holds bs 0 (u8 e.mode.code) := by rw [hbs]; rfl
  have hdest : Holds bs 1 (u8 e.dest.toNat) := by rw [hbs]; rfl
  have hgiven : Holds bs 2 (u16 e.mask.toNat) := by rw [hbs]; rfl
  have hdays : Holds bs 4 (u16 e.graceDays) := by rw [hbs]; rfl
  have hdestFits := e.dest.isLt
  simp only [stageGlobal, hmode.u8 hcode, hof, hdest.u8 (by omega), hgiven.u16 e.mask.isLt, hdays.u16 (by omega),
    if_neg (show ¬ 63 < e.dest.toNat by omega), BitVec.ofNat_toNat, BitVec.setWidth_eq, hmask, min_eq_right hgrace, ne_eq,
    not_true_eq_false, decide_false, Bool.or_self]

/-! ### Channel and band records -/

theorem Decimation.all_code (d : Decimation) : d.code < 256 ∧ Decimation.all[d.code]? = some d := by
  cases d <;> exact ⟨by decide, rfl⟩

theorem BandRole.all_code (r : BandRole) : r.code < 256 ∧ BandRole.all[r.code]? = some r := by
  cases r <;> exact ⟨by decide, rfl⟩

theorem stageChannel_bytes {e : ChannelEntry} (h : e.InRange) : stageChannel e.bytes = .stored e false := by
  obtain ⟨hwmin, hwmax, hwstep, hsmax, hsstep, hfmin, hfmax, htol⟩ := h
  obtain ⟨hcode, hof⟩ := e.decimation.all_code
  obtain ⟨bs, hbs⟩ : ∃ bs, bs = e.bytes := ⟨_, rfl⟩
  rw [← hbs]
  simp only [ChannelEntry.bytes, vector_toList_four, List.flatMap_cons, List.flatMap_nil, List.append_nil, indexOrNone_eq,
    List.append_assoc] at hbs
  have hturbine : Holds bs 0 (u8 e.turbine.1) := by rw [hbs]; rfl
  have hdecimation : Holds bs 1 (u8 e.decimation.code) := by rw [hbs]; rfl
  have hwindow : Holds bs 2 (u16 e.window) := by rw [hbs]; rfl
  have hsettle : Holds bs 4 (u16 e.settle) := by rw [hbs]; rfl
  have hframe : Holds bs 6 (u8 e.frameSamples) := by rw [hbs]; rfl
  have htolerance : Holds bs 7 (u16 e.gapTolerance) := by rw [hbs]; rfl
  have hfirst : Holds bs 9 (u8 (e.bindings[0].elim 255 Fin.val)) := by rw [hbs]; rfl
  have hsecond : Holds bs 10 (u8 (e.bindings[1].elim 255 Fin.val)) := by rw [hbs]; rfl
  have hthird : Holds bs 11 (u8 (e.bindings[2].elim 255 Fin.val)) := by rw [hbs]; rfl
  have hfourth : Holds bs 12 (u8 (e.bindings[3].elim 255 Fin.val)) := by rw [hbs]; rfl
  have hcapture : Holds bs 13 (yesNo e.captureOnTrigger) := by rw [hbs]; rfl
  have hblocks : e.window / 64 * 64 = e.window := by omega
  have hblocks' : e.settle / 64 * 64 = e.settle := by omega
  simp only [stageChannel, hturbine.index (by decide), hdecimation.u8 hcode, hof, hwindow.u16 (by omega), hsettle.u16 (by omega),
    hframe.u8 (by omega), htolerance.u16 (by omega), hfirst.indexOrNone (by decide), hsecond.indexOrNone (by decide),
    hthird.indexOrNone (by decide), hfourth.indexOrNone (by decide), hcapture.yesNo, hblocks, hblocks',
    clampNat_of_mem hwmin hwmax, min_eq_right hsmax, clampNat_of_mem hfmin hfmax, min_eq_right htol, vector_four, ne_eq,
    not_true_eq_false, decide_false, Bool.or_self]

section
variable {bs : List Byte} {k : Nat}

/-- A filter section read back at its offset. -/
theorem Holds.biquad {q : Biquad} (h : Holds bs k q.bytes) (hq : q.InRange) : biquad? bs k = some q := by
  obtain ⟨h0, h1, h2, h3, h4⟩ := hq
  have part : ∀ {n : Nat} {f : List Byte}, Holds q.bytes n f → Nat.ble (n + f.length) 11 = true → Holds bs (k + n) f :=
    fun hf hfit => h.inner hf (Nat.le_of_ble_eq_true hfit)
  have hbypass : Holds bs (k + 0) (Machine.yesNo q.bypass) := part rfl rfl
  have hb0 : Holds bs (k + 1) (Machine.i16 q.b0) := part rfl rfl
  have hb1 : Holds bs (k + 3) (Machine.i16 q.b1) := part rfl rfl
  have hb2 : Holds bs (k + 5) (Machine.i16 q.b2) := part rfl rfl
  have ha1 : Holds bs (k + 7) (Machine.i16 q.a1) := part rfl rfl
  have ha2 : Holds bs (k + 9) (Machine.i16 q.a2) := part rfl rfl
  have hflag := hbypass.yesNo
  rw [Nat.add_zero] at hflag
  rw [biquad?, hflag, hb0.i16 h0, hb1.i16 h1, hb2.i16 h2, ha1.i16 h3, ha2.i16 h4]
  rfl

/-- Three thresholds read back at their offset, none of them cut. -/
theorem Holds.thresholds {x : Thresholds} (h : Holds bs k x.bytes) (hx : x.InRange) :
    thresholdsAt bs k = x ∧ thresholdsCut bs k = false ∧ x.ordered = true := by
  obtain ⟨h12, h23, h3⟩ := hx
  have part : ∀ {n : Nat} {f : List Byte}, Holds x.bytes n f → Nat.ble (n + f.length) 12 = true → Holds bs (k + n) f :=
    fun hf hfit => h.inner hf (Nat.le_of_ble_eq_true hfit)
  have ht1 : Holds bs (k + 0) (Machine.u32 x.t1) := part rfl rfl
  have ht2 : Holds bs (k + 4) (Machine.u32 x.t2) := part rfl rfl
  have ht3 : Holds bs (k + 8) (Machine.u32 x.t3) := part rfl rfl
  have h1 := ht1.u32 (by omega)
  rw [Nat.add_zero] at h1
  refine ⟨?_, ?_, ?_⟩
  · rw [thresholdsAt, h1, ht2.u32 (by omega), ht3.u32 (by omega), min_eq_right (by omega), min_eq_right (by omega),
      min_eq_right h3]
  · rw [thresholdsCut, h1, ht2.u32 (by omega), ht3.u32 (by omega), decide_eq_false (by omega), decide_eq_false (by omega),
      decide_eq_false (by omega)]
    rfl
  · rw [Thresholds.ordered, decide_eq_true h12, decide_eq_true h23]
    rfl

end

theorem stageBand_bytes {e : BandEntry} (h : e.InRange) : stageBand e.bytes = .stored e false := by
  obtain ⟨hsections, hcmin, hcmax, hfloor, hnormal, hice, hspeeds, hspeed, hpmin, hpmax, hqmin, hqmax, hhyst⟩ := h
  obtain ⟨hcode, hof⟩ := e.role.all_code
  obtain ⟨bs, hbs⟩ : ∃ bs, bs = e.bytes := ⟨_, rfl⟩
  rw [← hbs]
  simp only [BandEntry.bytes, vector_toList_four, List.flatMap_cons, List.flatMap_nil, List.append_nil, List.append_assoc] at hbs
  have hvalid : Holds bs 0 (yesNo e.valid) := by rw [hbs]; rfl
  have hrole : Holds bs 1 (u8 e.role.code) := by rw [hbs]; rfl
  have hs0 : Holds bs 2 e.sections[0].bytes := by rw [hbs]; rfl
  have hs1 : Holds bs 13 e.sections[1].bytes := by rw [hbs]; rfl
  have hs2 : Holds bs 24 e.sections[2].bytes := by rw [hbs]; rfl
  have hs3 : Holds bs 35 e.sections[3].bytes := by rw [hbs]; rfl
  have hclip : Holds bs 46 (u16 e.clip) := by rw [hbs]; rfl
  have hfloor' : Holds bs 48 (u32 e.floor) := by rw [hbs]; rfl
  have hnormal' : Holds bs 52 e.normal.bytes := by rw [hbs]; rfl
  have hice' : Holds bs 64 e.ice.bytes := by rw [hbs]; rfl
  have hrelaxed : Holds bs 76 (yesNo e.iceRelaxed) := by rw [hbs]; rfl
  have hlo : Holds bs 77 (u16 e.speedMin) := by rw [hbs]; rfl
  have hhi : Holds bs 79 (u16 e.speedMax) := by rw [hbs]; rfl
  have hpers : Holds bs 81 (u8 e.persistence) := by rw [hbs]; rfl
  have hclear : Holds bs 82 (u8 e.clear) := by rw [hbs]; rfl
  have hhyst' : Holds bs 83 (u16 e.hysteresis) := by rw [hbs]; rfl
  have halarm : Holds bs 85 (yesNo e.captureOnAlarm) := by rw [hbs]; rfl
  obtain ⟨hn, hncut, hnord⟩ := hnormal'.thresholds hnormal
  obtain ⟨hi, hicut, hiord⟩ := hice'.thresholds hice
  have hslow : e.speedMin ≤ 30000 := hspeeds.trans hspeed
  simp only [stageBand, hvalid.yesNo, hrole.u8 hcode, hof, hs0.biquad (hsections 0), hs1.biquad (hsections 1),
    hs2.biquad (hsections 2), hs3.biquad (hsections 3), hclip.u16 (by omega), hfloor'.u32 (by omega), hn, hncut, hnord, hi,
    hicut, hiord, hrelaxed.yesNo, hlo.u16 (by omega), hhi.u16 (by omega), hpers.u8 (by omega), hclear.u8 (by omega),
    hhyst'.u16 (by omega), halarm.yesNo, clampNat_of_mem hcmin hcmax, min_eq_right hfloor, min_eq_right hslow,
    min_eq_right hspeed, clampNat_of_mem hpmin hpmax, clampNat_of_mem hqmin hqmax, min_eq_right hhyst, vector_four,
    decide_eq_true hspeeds, Bool.and_self, if_true, ne_eq, not_true_eq_false, decide_false, Bool.or_self]

/-! ### Instance lists -/

theorem ids?_of_nodup : ∀ {l : List (Fin 96)}, l.Nodup → ids? (l.map Fin.val) = some l
  | [], _ => rfl
  | i :: l, h => by
    obtain ⟨hnot, hrest⟩ := List.nodup_cons.mp h
    simp only [List.map_cons, ids?, index?_of_lt i.2, ids?_of_nodup hrest, if_neg hnot]

/-- A list without repetition reads back from its count and the slots it fills. -/
theorem idList?_of_nodup {m : Nat} {l : List (Fin 96)} {slots : List Nat} (hmin : 1 ≤ l.length) (hmax : l.length ≤ m)
    (h : l.Nodup) (hslots : slots.take l.length = l.map Fin.val) : idList? m l.length slots = some l := by
  rw [idList?, if_pos ⟨hmin, hmax⟩, hslots, ids?_of_nodup h]

/-- The number in slot `k` of a list of instances, 0 behind its end. -/
def slotOf (l : List (Fin 96)) (k : Nat) : Nat := (l.map Fin.val).getD k 0

theorem slotOf_lt (l : List (Fin 96)) (k : Nat) : slotOf l k < 256 := by
  unfold slotOf
  rw [List.getD_eq_getElem?_getD, List.getElem?_map]
  cases l[k]? with
  | none => exact Nat.zero_lt_succ _
  | some i => exact i.2.trans (by decide)

theorem byteList_three {l : List (Fin 96)} (h : l.length ≤ 3) : byteList 3 (l.map Fin.val) =
    u8 l.length ++ (u8 (slotOf l 0) ++ (u8 (slotOf l 1) ++ u8 (slotOf l 2))) := by
  match l, h with
  | [], _ | [_], _ | [_, _], _ | [_, _, _], _ => rfl

theorem byteList_four {l : List (Fin 96)} (h : l.length ≤ 4) : byteList 4 (l.map Fin.val) =
    u8 l.length ++ (u8 (slotOf l 0) ++ (u8 (slotOf l 1) ++ (u8 (slotOf l 2) ++ u8 (slotOf l 3)))) := by
  match l, h with
  | [], _ | [_], _ | [_, _], _ | [_, _, _], _ | [_, _, _, _], _ => rfl

theorem slots_three {l : List (Fin 96)} (h : l.length ≤ 3) :
    [slotOf l 0, slotOf l 1, slotOf l 2].take l.length = l.map Fin.val := by
  match l, h with
  | [], _ | [_], _ | [_, _], _ | [_, _, _], _ => rfl

theorem slots_four {l : List (Fin 96)} (h : l.length ≤ 4) :
    [slotOf l 0, slotOf l 1, slotOf l 2, slotOf l 3].take l.length = l.map Fin.val := by
  match l, h with
  | [], _ | [_], _ | [_, _], _ | [_, _, _], _ | [_, _, _, _], _ => rfl

/-! ### Ice records -/

theorem IcedLevel.all_code (l : IcedLevel) : l.code < 256 ∧ IcedLevel.all[l.code]? = some l := by
  cases l <;> exact ⟨by decide, rfl⟩

theorem TempInRange.fits {v : Int} (h : TempInRange v) : Fits16 v := by
  obtain ⟨hlo, hhi⟩ := h
  exact ⟨by omega, by omega⟩

theorem loadOf_of_inRange {n b : Nat} {o : Option Nat} (h : ∀ v, o = some v → b < n ∧ v ≤ 2 ^ 20) : loadOf n b o = o := by
  unfold loadOf
  cases o with
  | none => exact ite_self _
  | some v =>
    obtain ⟨hb, hv⟩ := h v rfl
    rw [if_pos hb, Option.map_some, min_eq_right hv]

theorem getD_le {o : Option Nat} {n : Nat} (h : ∀ v, o = some v → v ≤ n) : o.getD 0 ≤ n := by
  cases o with
  | none => exact Nat.zero_le n
  | some v => exact h v rfl

theorem stageIce_bytes {e : IceEntry} (h : e.InRange) : stageIce e.bytes = .stored e false := by
  obtain ⟨htmin, htmax, hnodup, htice, htthaw, htlearn, hrh, hdmin, hdmax, hsmin, hsi, hi, hthmin, hthmax, hcmin, hcmax, hrotor,
    hload⟩ := h
  obtain ⟨hcode, hof⟩ := e.level.all_code
  have hload0 : ∀ v, e.load[0] = some v → 0 < e.track.length ∧ v ≤ 2 ^ 20 := hload 0
  have hload1 : ∀ v, e.load[1] = some v → 1 < e.track.length ∧ v ≤ 2 ^ 20 := hload 1
  have hload2 : ∀ v, e.load[2] = some v → 2 < e.track.length ∧ v ≤ 2 ^ 20 := hload 2
  have hfits : ∀ {o : Option Nat} {p : Prop}, (∀ v, o = some v → p ∧ v ≤ 2 ^ 20) → o.getD 0 < 4294967296 := fun h =>
    (getD_le fun v hv => (h v hv).2).trans_lt (by decide)
  obtain ⟨bs, hbs⟩ : ∃ bs, bs = e.bytes := ⟨_, rfl⟩
  rw [← hbs]
  simp only [IceEntry.bytes, byteList_three htmax, vector_toList_three, List.flatMap_cons, List.flatMap_nil, List.append_nil,
    optional_u32_eq, List.append_assoc] at hbs
  have hvalid : Holds bs 0 (yesNo e.valid) := by rw [hbs]; rfl
  have hcount : Holds bs 1 (u8 e.track.length) := by rw [hbs]; rfl
  have hslot0 : Holds bs 2 (u8 (slotOf e.track 0)) := by rw [hbs]; rfl
  have hslot1 : Holds bs 3 (u8 (slotOf e.track 1)) := by rw [hbs]; rfl
  have hslot2 : Holds bs 4 (u8 (slotOf e.track 2)) := by rw [hbs]; rfl
  have hice : Holds bs 5 (i16 e.ticeMax) := by rw [hbs]; rfl
  have hhumid : Holds bs 7 (u8 e.rhMin) := by rw [hbs]; rfl
  have hdeficit : Holds bs 8 (u16 e.dmin16) := by rw [hbs]; rfl
  have hsuspect : Holds bs 10 (u8 e.nsuspect) := by rw [hbs]; rfl
  have hiced : Holds bs 11 (u8 e.niced) := by rw [hbs]; rfl
  have hthaw : Holds bs 12 (i16 e.tthaw) := by rw [hbs]; rfl
  have hnthaw : Holds bs 14 (u8 e.nthaw) := by rw [hbs]; rfl
  have hnclear : Holds bs 15 (u8 e.nclear) := by rw [hbs]; rfl
  have hlearn : Holds bs 16 (i16 e.tlearn) := by rw [hbs]; rfl
  have hrotor' : Holds bs 18 (u16 e.rotorMin) := by rw [hbs]; rfl
  have hlevel : Holds bs 20 (u8 e.level.code) := by rw [hbs]; rfl
  have hflag0 : Holds bs 21 (u8 (e.load[0].elim 0 fun _ => 1)) := by rw [hbs]; rfl
  have hvalue0 : Holds bs 22 (u32 (e.load[0].getD 0)) := by rw [hbs]; rfl
  have hflag1 : Holds bs 26 (u8 (e.load[1].elim 0 fun _ => 1)) := by rw [hbs]; rfl
  have hvalue1 : Holds bs 27 (u32 (e.load[1].getD 0)) := by rw [hbs]; rfl
  have hflag2 : Holds bs 31 (u8 (e.load[2].elim 0 fun _ => 1)) := by rw [hbs]; rfl
  have hvalue2 : Holds bs 32 (u32 (e.load[2].getD 0)) := by rw [hbs]; rfl
  simp only [stageIce, hvalid.yesNo, hcount.u8 (by omega), hslot0.u8 (slotOf_lt _ _), hslot1.u8 (slotOf_lt _ _),
    hslot2.u8 (slotOf_lt _ _), idList?_of_nodup htmin htmax hnodup (slots_three htmax), hice.i16 htice.fits,
    hhumid.u8 (by omega), hdeficit.u16 (by omega), hsuspect.u8 (by omega), hiced.u8 (by omega), hthaw.i16 htthaw.fits,
    hnthaw.u8 (by omega), hnclear.u8 (by omega), hlearn.i16 htlearn.fits, hrotor'.u16 (by omega), hlevel.u8 hcode, hof,
    hflag0.optional (hvalue0.u32 (hfits hload0)), hflag1.optional (hvalue1.u32 (hfits hload1)),
    hflag2.optional (hvalue2.u32 (hfits hload2)), loadOf_of_inRange hload0, loadOf_of_inRange hload1,
    loadOf_of_inRange hload2, clampInt_of_mem htice.1 htice.2, min_eq_right hrh, clampNat_of_mem hdmin hdmax,
    clampNat_of_mem hsmin (hsi.trans hi), clampNat_of_mem (hsmin.trans hsi) hi, max_eq_right hsi,
    clampInt_of_mem htthaw.1 htthaw.2, clampNat_of_mem hthmin hthmax, clampNat_of_mem hcmin hcmax,
    clampInt_of_mem htlearn.1 htlearn.2, min_eq_right hrotor, vector_three, ne_eq, not_true_eq_false, decide_false, Bool.or_self]

/-! ### Grid records -/

theorem PhaseOrder.all_code (o : PhaseOrder) : o.code < 256 ∧ PhaseOrder.all[o.code]? = some o := by
  cases o <;> exact ⟨by decide, rfl⟩

theorem flatMap_u16_length (l : List Nat) : (l.flatMap u16).length = 2 * l.length := by
  induction l with
  | nil => rfl
  | cons n l ih =>
    rw [List.flatMap_cons, List.length_append, ih, List.length_cons]
    change 2 + _ = _
    omega

/-- Two-byte numbers one after another. -/
theorem flatMap_u16_holds : ∀ {l : List Nat} {k : Nat} (h : k < l.length), Holds (l.flatMap u16) (2 * k) (u16 l[k])
  | n :: l, 0, _ => Holds.left _ _
  | n :: l, k + 1, h => by
    have ih := flatMap_u16_holds (l := l) (k := k) (Nat.lt_of_succ_lt_succ h)
    have hnext := ih.append_right (a := u16 n)
    rw [show (u16 n).length + 2 * k = 2 * (k + 1) by change 2 + _ = _; omega] at hnext
    exact hnext

theorem stageGrid_bytes {e : GridEntry} (h : e.InRange) : stageGrid e.bytes = .stored e false := by
  obtain ⟨hzc, hp1, hthd, hlimits, hpmin, hpmax, hqmin, hqmax⟩ := h
  obtain ⟨hcode, hof⟩ := e.order.all_code
  obtain ⟨ls, hls⟩ : ∃ ls, ls = e.limits.toList.flatMap u16 := ⟨_, rfl⟩
  have hlen : ls.length = 60 := by rw [hls, flatMap_u16_length, Vector.length_toList]
  obtain ⟨bs, hbs⟩ : ∃ bs, bs = e.bytes := ⟨_, rfl⟩
  rw [← hbs]
  simp only [GridEntry.bytes, ← hls] at hbs
  have hsplit : bs = (yesNo e.valid ++ u16 e.hzc ++ u8 e.order.code ++ u48 e.p1min ++ u16 e.lthd) ++
      (ls ++ (u8 e.persistence ++ u8 e.clear)) := by
    rw [hbs, List.append_assoc, List.append_assoc]
  have hvalid : Holds bs 0 (yesNo e.valid) := by rw [hbs]; rfl
  have hcross : Holds bs 1 (u16 e.hzc) := by rw [hbs]; rfl
  have horder : Holds bs 3 (u8 e.order.code) := by rw [hbs]; rfl
  have hpower : Holds bs 4 (u48 e.p1min) := by rw [hbs]; rfl
  have hdistortion : Holds bs 10 (u16 e.lthd) := by rw [hbs]; rfl
  have hlist : Holds bs 12 ls := by
    rw [hsplit]
    exact (Holds.left ls _).append_right
  have hpers : Holds bs 72 (u8 e.persistence) := by
    have h := ((Holds.left (u8 e.persistence) (u8 e.clear)).append_right (a := ls)).append_right
      (a := yesNo e.valid ++ u16 e.hzc ++ u8 e.order.code ++ u48 e.p1min ++ u16 e.lthd)
    rwa [← hsplit, hlen] at h
  have hclear : Holds bs 73 (u8 e.clear) := by
    have h := ((Holds.right (u8 e.persistence) (u8 e.clear)).append_right (a := ls)).append_right
      (a := yesNo e.valid ++ u16 e.hzc ++ u8 e.order.code ++ u48 e.p1min ++ u16 e.lthd)
    rwa [← hsplit, hlen] at h
  have hread : (tabulate 30 fun k => at16 bs (12 + 2 * k.1)) = e.limits := vector_ext_fin fun k => by
    rw [tabulate_get]
    have hk : k.1 < e.limits.toList.length := by rw [Vector.length_toList]; exact k.2
    have hfield := flatMap_u16_holds hk
    rw [← hls] at hfield
    have hvalue := (hlist.inner hfield (by rw [hlen]; change 2 * k.1 + 2 ≤ 60; omega)).u16 (by
      rw [Vector.getElem_toList]
      exact Nat.lt_succ_of_le (hlimits k))
    rw [hvalue, Vector.getElem_toList]
    rfl
  simp only [stageGrid, hvalid.yesNo, hcross.u16 (by omega), horder.u8 hcode, hof, hpower.u48 hp1, hdistortion.u16 (by omega),
    hread, hpers.u8 (by omega), hclear.u8 (by omega), min_eq_right hzc, clampNat_of_mem hpmin hpmax,
    clampNat_of_mem hqmin hqmax, ne_eq, not_true_eq_false, decide_false, Bool.or_self]

/-! ### Maintenance records -/

theorem Component.all_code (c : Component) : c.code < 256 ∧ Component.all[c.code]? = some c := by
  cases c <;> exact ⟨by decide, rfl⟩

theorem Task.all_code (x : Task) : x.code < 256 ∧ Task.all[x.code]? = some x := by
  cases x <;> exact ⟨by decide, rfl⟩

theorem UsageSource.bytes_length {x : UsageSource} (h : x.InRange) : x.bytes.length = 12 := by
  cases x with
  | vib ids w =>
    obtain ⟨-, hmax, -⟩ := h
    rw [UsageSource.bytes, byteList_four hmax, vector_toList_four]
    rfl
  | _ => rfl

/-- A usage source reads back from its twelve bytes. -/
theorem Holds.source {bs : List Byte} {x : UsageSource} (h : Holds bs 22 x.bytes) (hx : x.InRange) : source? bs = some x := by
  have part : ∀ {n : Nat} {f : List Byte}, Holds x.bytes n f → Nat.ble (n + f.length) 12 = true → Holds bs (22 + n) f :=
    fun hf hfit => h.inner hf (by rw [UsageSource.bytes_length hx]; exact Nat.le_of_ble_eq_true hfit)
  cases x with
  | none =>
    have hchoice : Holds bs 22 (Machine.u8 0) := part (n := 0) rfl rfl
    rw [source?, hchoice.u8 (by decide), if_pos rfl]
  | vib ids w =>
    obtain ⟨hmin, hmax, hnodup, hw⟩ := hx
    have hw0 : w[0] ≤ 255 := hw 0
    have hw1 : w[1] ≤ 255 := hw 1
    have hw2 : w[2] ≤ 255 := hw 2
    have hw3 : w[3] ≤ 255 := hw 3
    rw [UsageSource.bytes, byteList_four hmax, vector_toList_four] at part
    have hchoice : Holds bs 22 (Machine.u8 1) := part (n := 0) rfl rfl
    have hcount : Holds bs 23 (Machine.u8 ids.length) := part (n := 1) rfl rfl
    have hs0 : Holds bs 24 (Machine.u8 (slotOf ids 0)) := part (n := 2) rfl rfl
    have hs1 : Holds bs 25 (Machine.u8 (slotOf ids 1)) := part (n := 3) rfl rfl
    have hs2 : Holds bs 26 (Machine.u8 (slotOf ids 2)) := part (n := 4) rfl rfl
    have hs3 : Holds bs 27 (Machine.u8 (slotOf ids 3)) := part (n := 5) rfl rfl
    have hweight0 : Holds bs 28 (Machine.u8 w[0]) := part (n := 6) rfl rfl
    have hweight1 : Holds bs 29 (Machine.u8 w[1]) := part (n := 7) rfl rfl
    have hweight2 : Holds bs 30 (Machine.u8 w[2]) := part (n := 8) rfl rfl
    have hweight3 : Holds bs 31 (Machine.u8 w[3]) := part (n := 9) rfl rfl
    rw [source?, hchoice.u8 (by decide), if_neg (by decide), if_pos rfl, hcount.u8 (by omega), hs0.u8 (slotOf_lt _ _),
      hs1.u8 (slotOf_lt _ _), hs2.u8 (slotOf_lt _ _), hs3.u8 (slotOf_lt _ _),
      idList?_of_nodup hmin hmax hnodup (slots_four hmax), hweight0.u8 (by omega), hweight1.u8 (by omega),
      hweight2.u8 (by omega), hweight3.u8 (by omega), vector_four]
    rfl
  | run w =>
    have hw : w ≤ 255 := hx
    have hchoice : Holds bs 22 (Machine.u8 2) := part (n := 0) rfl rfl
    have hweight : Holds bs 33 (Machine.u8 w) := part (n := 11) rfl rfl
    rw [source?, hchoice.u8 (by decide), if_neg (by decide), if_neg (by decide), if_pos rfl, hweight.u8 (by omega)]
  | grid p w =>
    have hw : w ≤ 255 := hx
    have hchoice : Holds bs 22 (Machine.u8 3) := part (n := 0) rfl rfl
    have hpoint : Holds bs 32 (Machine.u8 p.1) := part (n := 10) rfl rfl
    have hweight : Holds bs 33 (Machine.u8 w) := part (n := 11) rfl rfl
    rw [source?, hchoice.u8 (by decide), if_neg (by decide), if_neg (by decide), if_neg (by decide), if_pos rfl,
      hpoint.index (by decide), hweight.u8 (by omega)]
    rfl
  | ice w =>
    have hw : w ≤ 255 := hx
    have hchoice : Holds bs 22 (Machine.u8 4) := part (n := 0) rfl rfl
    have hweight : Holds bs 33 (Machine.u8 w) := part (n := 11) rfl rfl
    rw [source?, hchoice.u8 (by decide), if_neg (by decide), if_neg (by decide), if_neg (by decide), if_neg (by decide),
      if_pos rfl, hweight.u8 (by omega)]

/-- The bytes of a maintenance record ahead of its usage source, and those behind it. -/
def MaintLoad.ahead (e : MaintLoad) : List Byte :=
  yesNo e.valid ++ (u8 e.turbine.1 ++ (u8 e.component.code ++ (u8 e.task.code ++ (u16 e.interval ++ (u16 e.dueDay ++
    (u8 0 ++ (u16 0 ++ (u16 e.lead ++ (u32 e.usageLimit ++
      (u8 (e.usage.elim 0 fun _ => 1) ++ u32 (e.usage.getD 0)))))))))))

def MaintLoad.behind (e : MaintLoad) : List Byte :=
  u8 (e.lastDone.elim 0 fun _ => 1) ++ (u16 (e.lastDone.getD 0) ++ (u8 0 ++ (u8 0 ++ (u8 0 ++ u8 0))))

theorem MaintLoad.bytes_eq (e : MaintLoad) : e.bytes = e.ahead ++ (e.source.bytes ++ e.behind) := by
  have hbase : optional 2 u16 none = u8 0 ++ u16 0 := rfl
  have hread : optional 1 u8 none = u8 0 ++ u8 0 := rfl
  simp only [MaintLoad.bytes, MaintLoad.ahead, MaintLoad.behind, optional_u32_eq, optional_u16_eq e.lastDone, hbase, hread,
    List.append_assoc]

theorem stageMaint_bytes {e : MaintLoad} (h : e.InRange) : stageMaint e.bytes = .stored e false := by
  obtain ⟨himin, himax, hdue, hlead, hlimit, husage, hsource, hdone⟩ := h
  obtain ⟨hcomponent, hofComponent⟩ := e.component.all_code
  obtain ⟨htask, hofTask⟩ := e.task.all_code
  have hlimitFits : e.usageLimit < 4294967296 := Nat.lt_succ_of_le hlimit
  have husageFits : e.usage.getD 0 < 4294967296 := Nat.lt_succ_of_le (getD_le husage)
  have hdoneFits : e.lastDone.getD 0 < 65536 := Nat.lt_succ_of_le (getD_le hdone)
  rw [e.bytes_eq]
  obtain ⟨bs, hbs⟩ : ∃ bs, bs = e.ahead ++ (e.source.bytes ++ e.behind) := ⟨_, rfl⟩
  rw [← hbs]
  have hahead : Holds bs 0 e.ahead := by rw [hbs]; exact Holds.left _ _
  have hbehind : ∀ {n : Nat} {f : List Byte}, Holds e.behind n f → Holds bs (22 + (12 + n)) f := fun hf => by
    have hright := (hf.append_right (a := e.source.bytes)).append_right (a := e.ahead)
    rwa [← hbs, UsageSource.bytes_length hsource] at hright
  have hsrc : Holds bs 22 e.source.bytes := by
    rw [hbs]
    exact (Holds.left e.source.bytes e.behind).append_right (a := e.ahead)
  have part : ∀ {n : Nat} {f : List Byte}, Holds e.ahead n f → Nat.ble (n + f.length) 22 = true → Holds bs n f :=
    fun hf hfit => by
      have hin := hahead.inner hf (Nat.le_of_ble_eq_true hfit)
      rwa [Nat.zero_add] at hin
  have hvalid : Holds bs 0 (yesNo e.valid) := part rfl rfl
  have hturbine : Holds bs 1 (u8 e.turbine.1) := part rfl rfl
  have hcomp : Holds bs 2 (u8 e.component.code) := part rfl rfl
  have htask' : Holds bs 3 (u8 e.task.code) := part rfl rfl
  have hinterval : Holds bs 4 (u16 e.interval) := part rfl rfl
  have hdueDay : Holds bs 6 (u16 e.dueDay) := part rfl rfl
  have hbase : Holds bs 8 (u8 0) := part rfl rfl
  have hleadDays : Holds bs 11 (u16 e.lead) := part rfl rfl
  have hlimit' : Holds bs 13 (u32 e.usageLimit) := part rfl rfl
  have hgiven : Holds bs 17 (u8 (e.usage.elim 0 fun _ => 1)) := part rfl rfl
  have husage' : Holds bs 18 (u32 (e.usage.getD 0)) := part rfl rfl
  have hlast : Holds bs 34 (u8 (e.lastDone.elim 0 fun _ => 1)) := hbehind (n := 0) rfl
  have hlastDay : Holds bs 35 (u16 (e.lastDone.getD 0)) := hbehind (n := 1) rfl
  have hdeferrals : Holds bs 37 (u8 0) := hbehind (n := 3) rfl
  have hstate : Holds bs 39 (u8 0) := hbehind (n := 5) rfl
  simp only [stageMaint, hvalid.yesNo, hturbine.index (by decide), hcomp.u8 hcomponent, hofComponent, htask'.u8 htask, hofTask,
    hinterval.u16 (by omega), hdueDay.u16 (by omega), hbase.u8 (by decide), hleadDays.u16 (by omega), hlimit'.u32 hlimitFits,
    hgiven.optional (husage'.u32 husageFits), hsrc.source hsource, hlast.optional (hlastDay.u16 hdoneFits),
    hdeferrals.u8 (by decide), hstate.u8 (by decide), clampNat_of_mem himin himax, min_eq_right hlead, Nat.zero_ne_one,
    Nat.not_lt_zero, or_self, if_false, ne_eq, not_true_eq_false, decide_false, Bool.or_self]

/-- Settles O53: each table's record by its fields. -/
theorem recordsStageUnchanged : Obligations.RecordsStageUnchanged :=
  ⟨stageStream_bytes, fun _ => stageChannel_bytes, fun _ => stageTurbine_bytes, fun _ => stageGlobal_bytes,
    fun _ => stageBand_bytes, fun _ => stageIce_bytes, fun _ => stageGrid_bytes, fun _ => stageMaint_bytes⟩

end Sys2Proof.Machine
end

section
/-! PROOFS. What the input samples of a frame do at a channel in a run (R32, R33, R36, R37, R52): the decimated samples
enter ring, instances and progress, up to the one that ends the settling or completes the window. -/

namespace Sys2Proof.Machine

/-! ### The ring (R33) -/

theorem pushRing_eq {ring : List Int} (h : ring.length ≤ 2048) (y : Int) :
    pushRing ring y = newestRing (ring ++ [y]) := by
  unfold pushRing newestRing
  rw [List.length_append, List.length_singleton]
  by_cases hroom : ring.length < 2048
  · rw [if_pos (show ring.length < Config.ringSize from hroom), show ring.length + 1 - 2048 = 0 by omega, List.drop_zero]
  · rw [if_neg (show ¬ ring.length < Config.ringSize from hroom), show ring.length + 1 - 2048 = 1 by omega,
      List.drop_append_of_le_length (by omega)]

theorem newestRing_append (l m : List Int) : newestRing (newestRing l ++ m) = newestRing (l ++ m) := by
  have hcut : (l.length - 2048) + ((newestRing l ++ m).length - 2048) = (l ++ m).length - 2048 := by
    rw [newestRing, List.length_append, List.length_append, List.length_drop]
    omega
  have hinner : newestRing l ++ m = (l ++ m).drop (l.length - 2048) :=
    (List.drop_append_of_le_length (Nat.sub_le _ _)).symm
  calc newestRing (newestRing l ++ m) = (newestRing l ++ m).drop ((newestRing l ++ m).length - 2048) := rfl
    _ = (l ++ m).drop ((l.length - 2048) + ((newestRing l ++ m).length - 2048)) := by rw [← List.drop_drop, ← hinner]
    _ = newestRing (l ++ m) := by rw [hcut]; rfl

theorem foldl_pushRing {ring : List Int} (h : ring.length ≤ 2048) (ys : List (Int × Bool)) :
    ys.foldl (fun r y => pushRing r y.1) ring = newestRing (ring ++ ys.map Prod.fst) := by
  induction ys generalizing ring with
  | nil =>
    rw [List.map_nil, List.append_nil, newestRing, show ring.length - 2048 = 0 by omega]
    rfl
  | cons y ys ih =>
    rw [List.foldl_cons, ih (length_pushRing_le y.1 h), pushRing_eq h, newestRing_append, List.append_assoc]
    rfl

/-! ### One decimated sample (R33, R52) -/

/-- The progress a decimated sample makes in a window. -/
def Channel.windowed (filled : Bool) (x : Channel) : Channel :=
  { x with windowProgress := x.windowProgress + 1, gapped := x.gapped || filled }

/-- The progress a decimated sample makes at its channel. -/
def Channel.advanced (x : Channel) (filled : Bool) : Channel :=
  match x.state with
  | .running => x.windowed filled
  | .settling | .unbound | .idle | .suspended => { x with settleProgress := x.settleProgress + 1 }

/-- What a decimated sample does at its channel, the end of the settling or of the window apart. -/
def Channel.passed (x : Channel) (y : Int × Bool) : Channel :=
  { x with ring := pushRing x.ring y.1 }.advanced y.2

/-- What a decimated sample does at an instance of its channel. -/
def Inst.passed (st : ChannelState) (band : Option BandEntry) (x : Inst) (y : Int × Bool) : Inst :=
  match band with
  | some b => if st = .running then x.sample b y.1 else x.settle b y.1
  | none => x

/-- How far the settling or the window has come, and where it ends. -/
def Channel.progress (x : Channel) : Nat := if x.state = .running then x.windowProgress else x.settleProgress

def Channel.limit (x : Channel) : Nat := if x.state = .running then x.config.entry.window else x.config.entry.settle

section
variable {x : Channel}

theorem Channel.advanced_running (h : x.state = .running) (filled : Bool) : x.advanced filled = x.windowed filled := by
  simp only [Channel.advanced, h]

theorem Channel.advanced_of_ne_running (h : x.state ≠ .running) (filled : Bool) : x.advanced filled = { x with
    settleProgress := x.settleProgress + 1 } := by
  unfold Channel.advanced
  split
  next hrun => exact absurd hrun h
  all_goals rfl

theorem Channel.advanced_ring (x : Channel) (filled : Bool) : (x.advanced filled).ring = x.ring := by
  unfold Channel.advanced
  split <;> rfl

theorem Channel.passed_running (h : x.state = .running) (y : Int × Bool) : x.passed y = { x with
    ring := pushRing x.ring y.1, windowProgress := x.windowProgress + 1, gapped := x.gapped || y.2 } :=
  Channel.advanced_running (x := { x with ring := pushRing x.ring y.1 }) h y.2

theorem Channel.passed_settling (h : x.state = .settling) (y : Int × Bool) : x.passed y = { x with
    ring := pushRing x.ring y.1, settleProgress := x.settleProgress + 1 } :=
  Channel.advanced_of_ne_running (x := { x with ring := pushRing x.ring y.1 }) (by rw [h]; decide) y.2

/-- A decimated sample leaves everything but ring, progress and gap mark. -/
theorem Channel.passed_eq (x : Channel) (y : Int × Bool) : ∃ r s w g, x.passed y = { x with
    ring := r, settleProgress := s, windowProgress := w, gapped := g } := by
  unfold Channel.passed Channel.advanced
  split
  · exact ⟨_, x.settleProgress, _, _, rfl⟩
  all_goals exact ⟨_, _, x.windowProgress, x.gapped, rfl⟩

theorem Channel.foldl_passed_eq (ys : List (Int × Bool)) (x : Channel) : ∃ r s w g, ys.foldl Channel.passed x = { x with
    ring := r, settleProgress := s, windowProgress := w, gapped := g } := by
  induction ys generalizing x with
  | nil => exact ⟨_, _, _, _, rfl⟩
  | cons y ys ih =>
    obtain ⟨r, s, w, g, h⟩ := x.passed_eq y
    obtain ⟨r', s', w', g', h'⟩ := ih (x.passed y)
    rw [List.foldl_cons, h', h]
    exact ⟨r', s', w', g', rfl⟩

theorem Channel.passed_progress (h : x.state = .settling ∨ x.state = .running) (y : Int × Bool) :
    (x.passed y).progress = x.progress + 1 ∧ (x.passed y).limit = x.limit ∧ (x.passed y).state = x.state := by
  rcases h with h | h
  · rw [Channel.passed_settling h]
    simp only [Channel.progress, Channel.limit, h, reduceCtorEq, if_false, and_self]
  · rw [Channel.passed_running h]
    simp only [Channel.progress, Channel.limit, h, if_true, and_self]

theorem foldl_passed_settling (h : x.state = .settling) (hring : x.ring.length ≤ 2048) (ys : List (Int × Bool)) :
    ys.foldl Channel.passed x = { x with
      ring := newestRing (x.ring ++ ys.map Prod.fst), settleProgress := x.settleProgress + ys.length } := by
  rw [← foldl_pushRing hring]
  induction ys generalizing x with
  | nil => rfl
  | cons y ys ih =>
    rw [List.foldl_cons, ih (by rw [Channel.passed_settling h]; exact h)
      (by rw [Channel.passed_settling h]; exact length_pushRing_le y.1 hring), Channel.passed_settling h, List.length_cons,
      List.foldl_cons]
    simp only [Nat.add_assoc, Nat.add_comm 1]

theorem foldl_passed_running (h : x.state = .running) (hring : x.ring.length ≤ 2048) (ys : List (Int × Bool)) :
    ys.foldl Channel.passed x = { x with
      ring := newestRing (x.ring ++ ys.map Prod.fst), windowProgress := x.windowProgress + ys.length
      gapped := x.gapped || ys.any Prod.snd } := by
  rw [← foldl_pushRing hring]
  induction ys generalizing x with
  | nil => simp only [List.foldl_nil, List.length_nil, Nat.add_zero, List.any_nil, Bool.or_false]
  | cons y ys ih =>
    rw [List.foldl_cons, ih (by rw [Channel.passed_running h]; exact h)
      (by rw [Channel.passed_running h]; exact length_pushRing_le y.1 hring), Channel.passed_running h, List.length_cons,
      List.foldl_cons, List.any_cons]
    simp only [Nat.add_assoc, Nat.add_comm 1, Bool.or_assoc]

end

theorem foldl_inst_settling (b : BandEntry) (ys : List (Int × Bool)) (z : Inst) :
    ys.foldl (Inst.passed .settling (some b)) z = ys.foldl (fun z v => z.settle b v.1) z := rfl

theorem foldl_inst_running (b : BandEntry) (ys : List (Int × Bool)) (z : Inst) :
    ys.foldl (Inst.passed .running (some b)) z = ys.foldl (fun z v => z.sample b v.1) z := rfl

theorem crossingStep_eq (h : Nat) (v : Int) (z : Inst) :
    (crossingStep h v z).window = z.window ∧ (crossingStep h v z).alarm = z.alarm := by
  unfold crossingStep
  split
  · exact ⟨rfl, rfl⟩
  · split <;> exact ⟨rfl, rfl⟩

theorem Inst.sample_eq (b : BandEntry) (v : Int) (z : Inst) :
    (z.sample b v).window = z.window ∧ (z.sample b v).alarm = z.alarm := by
  unfold Inst.sample
  extract_lets r v' x
  split
  · exact ⟨rfl, rfl⟩
  · exact crossingStep_eq _ _ x

/-- Samples leave window and alarm record, and outside RUNNING the sum of squares. -/
theorem Inst.passed_eq (st : ChannelState) (band : Option BandEntry) (z : Inst) (y : Int × Bool) :
    (z.passed st band y).window = z.window ∧ (z.passed st band y).alarm = z.alarm ∧
      (st ≠ .running → (z.passed st band y).sumSq = z.sumSq) := by
  unfold Inst.passed
  split
  next b =>
    split
    next hrun =>
      obtain ⟨hwindow, halarm⟩ := z.sample_eq b y.1
      exact ⟨hwindow, halarm, fun h => absurd hrun h⟩
    next => exact ⟨rfl, rfl, fun _ => rfl⟩
  next => exact ⟨rfl, rfl, fun _ => rfl⟩

theorem foldl_inst_eq (st : ChannelState) (band : Option BandEntry) (ys : List (Int × Bool)) (z : Inst) :
    (ys.foldl (Inst.passed st band) z).window = z.window ∧ (ys.foldl (Inst.passed st band) z).alarm = z.alarm ∧
      (st ≠ .running → (ys.foldl (Inst.passed st band) z).sumSq = z.sumSq) := by
  induction ys generalizing z with
  | nil => exact ⟨rfl, rfl, fun _ => rfl⟩
  | cons y ys ih =>
    obtain ⟨hw, ha, hs⟩ := z.passed_eq st band y
    obtain ⟨hw', ha', hs'⟩ := ih (z.passed st band y)
    exact ⟨hw'.trans hw, ha'.trans ha, fun h => (hs' h).trans (hs h)⟩

/-! ### Decimation (R32) -/

theorem decimated_incomplete {d : Decimation} {g : List (Int × Bool)} {x : Int × Bool} (h : ¬ d.size ≤ (g ++ [x]).length)
    (rest : List (Int × Bool)) : decimated d g (x :: rest) = decimated d (g ++ [x]) rest := by
  rw [decimated, if_neg h]

theorem decimated_complete {d : Decimation} {g : List (Int × Bool)} {x : Int × Bool} (h : d.size ≤ (g ++ [x]).length)
    (rest : List (Int × Bool)) : decimated d g (x :: rest) =
      (d.output (g ++ [x]) :: (decimated d [] rest).1, (decimated d [] rest).2) := by
  rw [decimated, if_pos h]

theorem decimated_append (d : Decimation) (xs zs g : List (Int × Bool)) : decimated d g (xs ++ zs) =
    ((decimated d g xs).1 ++ (decimated d (decimated d g xs).2 zs).1, (decimated d (decimated d g xs).2 zs).2) := by
  induction xs generalizing g with
  | nil => rfl
  | cons x xs ih =>
    by_cases h : d.size ≤ (g ++ [x]).length
    · rw [List.cons_append, decimated_complete h, decimated_complete h, ih]
      rfl
    · rw [List.cons_append, decimated_incomplete h, decimated_incomplete h, ih]

/-! ### States that passing decimated samples leaves -/

/-- What passing samples at channel `c` may write. -/
def Footprint.passing (c : Fin 24) : Footprint :=
  { Footprint.nothing with channel := (· = c), inst := fun i => instChannel i = c, slots := True, counts := True }

section
variable {s t u : State} {c : Fin 24} {ys zs g g' : List (Int × Bool)} {e e' : Option Byte} {l l' : Option Int}

/-- What a frame notes at its channel beside the samples: the incomplete group, the expectation and the last input. -/
def Channel.noted (g : List (Int × Bool)) (e : Option Byte) (l : Option Int) (x : Channel) : Channel :=
  { x with group := g, expect := e, lastInput := l }

/-- The decimated samples `ys` entered ring, instances and progress of channel `c`, which then holds the group, the
expectation and the last input named. -/
structure Gathered (c : Fin 24) (ys g : List (Int × Bool)) (e : Option Byte) (l : Option Int) (s t : State) : Prop where
  channel : t.channels[c] = (ys.foldl Channel.passed s.channels[c]).noted g e l
  insts : ∀ i, instChannel i = c →
    t.insts[i] = ys.foldl (Inst.passed s.channels[c].state (s.bandOf i)) s.insts[i]
  moves : Moves (.passing c) s t

/-- Samples leave the state, the configuration, the generation and the mark of the channel. -/
theorem Gathered.keeps (h : Gathered c ys g e l s t) : t.channels[c].state = s.channels[c].state ∧
    t.channels[c].config = s.channels[c].config ∧ t.channels[c].gen = s.channels[c].gen ∧
    t.channels[c].marked = s.channels[c].marked := by
  obtain ⟨r, p, w, q, hf⟩ := Channel.foldl_passed_eq ys s.channels[c]
  rw [h.channel, hf]
  exact ⟨rfl, rfl, rfl, rfl⟩

theorem State.bandOf_of_config {i : Fin 96} (hi : instChannel i = c) (h : t.channels[c].config = s.channels[c].config) :
    t.bandOf i = s.bandOf i := by
  subst hi
  rw [State.bandOf, State.bandOf, h]

/-- Passing samples does not look at group, expectation or last input. -/
theorem passed_noted (ys g : List (Int × Bool)) (e : Option Byte) (l : Option Int) (x : Channel) :
    ys.foldl Channel.passed (x.noted g e l) = (ys.foldl Channel.passed x).noted g e l := by
  induction ys generalizing x with
  | nil => rfl
  | cons y ys ih =>
    have hone : (x.noted g e l).passed y = (x.passed y).noted g e l := by
      unfold Channel.passed Channel.noted
      cases x.state <;> rfl
    rw [List.foldl_cons, hone, ih, List.foldl_cons]

theorem Gathered.trans (h : Gathered c ys g e l s t) (h' : Gathered c zs g' e' l' t u) :
    Gathered c (ys ++ zs) g' e' l' s u := by
  obtain ⟨hst, hcfg, -, -⟩ := h.keeps
  refine ⟨?_, fun i hi => ?_, h.moves.trans h'.moves⟩
  · rw [h'.channel, h.channel, passed_noted, List.foldl_append]
    rfl
  · rw [h'.insts i hi, h.insts i hi, hst, State.bandOf_of_config hi hcfg, List.foldl_append]

/-- A change of group, expectation or last input alone. -/
theorem Gathered.of_note {f : Channel → Channel} (hf : f s.channels[c] = s.channels[c].noted g e l)
    (hring : ∀ x, (f x).ring = x.ring) : Gathered c [] g e l s (s.modChannel c f) :=
  ⟨(modChannel_same s c f).trans hf, fun _ _ => rfl, .channel c f rfl (fun x h => (hring x).symm ▸ h) .refl⟩

/-- The state a decimated sample leaves ahead of the check for the end of settling or window. -/
def takeDecimated (c : Fin 24) (y : Int × Bool) (s : State) : State :=
  let s := captureAppend c y.1 (s.modChannel c fun x => { x with ring := pushRing x.ring y.1 })
  (s.mapInsts fun i z => if instChannel i = c then z.passed s.channels[c].state (s.bandOf i) y else z).modChannel c
    fun x => x.advanced y.2

/-- The sample that ends the settling or the window is followed by a window, after the close of the one it ends. -/
def finish (c : Fin 24) (s : State) : State :=
  if s.channels[c].state = .running then closeWindow c s else startWindow c false s

theorem State.modChannel_congr {f h : Channel → Channel} (hf : f s.channels[c] = h s.channels[c]) :
    s.modChannel c f = s.modChannel c h := by
  rw [State.modChannel, State.modChannel, upd_congr hf]

/-- The check for the end of the settling or of the window that follows a decimated sample. -/
def endCheck (c : Fin 24) (s : State) : State :=
  if s.channels[c].limit ≤ s.channels[c].progress then finish c s else s

/-- The progress of the channel and the check that follows it, as the model writes them. -/
theorem endCheck_advanced {running : Bool} (hst : running = decide (s.channels[c].state = .running)) (filled : Bool) :
    (if running = true then
      if (s.modChannel c (Channel.windowed filled)).channels[c].config.entry.window ≤
          (s.modChannel c (Channel.windowed filled)).channels[c].windowProgress
      then closeWindow c (s.modChannel c (Channel.windowed filled))
      else s.modChannel c (Channel.windowed filled)
    else settleCheck c (s.modChannel c fun x => { x with settleProgress := x.settleProgress + 1 })) =
      endCheck c (s.modChannel c fun x => x.advanced filled) := by
  subst hst
  by_cases hrun : s.channels[c].state = .running
  · rw [if_pos (decide_eq_true hrun),
      ← State.modChannel_congr (f := (·.advanced filled)) (Channel.advanced_running hrun filled)]
    have hst : (s.modChannel c (·.advanced filled)).channels[c].state = .running := by
      rw [modChannel_same, Channel.advanced_running hrun]
      exact hrun
    rw [endCheck, finish, Channel.limit, Channel.progress, if_pos hst, if_pos hst, if_pos hst]
  · rw [if_neg (by rwa [decide_eq_true_eq]),
      ← State.modChannel_congr (f := (·.advanced filled)) (Channel.advanced_of_ne_running hrun filled)]
    have hst : (s.modChannel c (·.advanced filled)).channels[c].state ≠ .running := by
      rw [modChannel_same, Channel.advanced_of_ne_running hrun]
      exact hrun
    rw [endCheck, finish, Channel.limit, Channel.progress, if_neg hst, if_neg hst, if_neg hst, settleCheck]

theorem State.mapInsts_congr {f h : Fin 96 → Inst → Inst} (hf : ∀ i z, f i z = h i z) : s.mapInsts f = s.mapInsts h :=
  by
  rw [show f = h from funext fun i => funext (hf i)]

theorem passSample_eq (c : Fin 24) (y : Int × Bool) (s : State) :
    passSample c y.1 y.2 s = endCheck c (takeDecimated c y s) := by
  unfold passSample takeDecimated
  dsimp only
  generalize captureAppend c y.1 (s.modChannel c fun x => { x with ring := pushRing x.ring y.1 }) = v
  refine (endCheck_advanced (s := v.mapInsts _) rfl y.2).trans ?_
  rw [State.mapInsts_congr]
  intro i z
  unfold Inst.passed
  split
  next =>
    cases v.bandOf i with
    | none => rfl
    | some b => simp only [decide_eq_true_eq]
  next => rfl

theorem takeDecimated_gathered (c : Fin 24) (y : Int × Bool) (s : State) :
    Gathered c [y] s.channels[c].group s.channels[c].expect s.channels[c].lastInput s (takeDecimated c y s) := by
  unfold takeDecimated
  generalize hv : captureAppend c y.1 (s.modChannel c fun x => { x with ring := pushRing x.ring y.1 }) = v
  have hcapture : Moves { Footprint.nothing with slots := True }
      (s.modChannel c fun x => { x with ring := pushRing x.ring y.1 }) v :=
    hv ▸ captureAppend_moves c y.1 trivial .refl
  have hchannel : v.channels[c] = { s.channels[c] with ring := pushRing s.channels[c].ring y.1 } :=
    (hcapture.channel_stands id).trans (modChannel_same _ _ _)
  have hinst (i : Fin 96) : v.insts[i] = s.insts[i] := hcapture.inst_stands id
  refine ⟨?_, fun i hi => ?_, ?_⟩
  · rw [modChannel_same, State.mapInsts_channels, hchannel]
    obtain ⟨r, p, w, q, hf⟩ := s.channels[c].passed_eq y
    have hsame : s.channels[c].passed y = (s.channels[c].passed y).noted s.channels[c].group s.channels[c].expect
        s.channels[c].lastInput := by rw [hf]; rfl
    exact hsame
  · have hcfg : v.channels[c].config = s.channels[c].config := by rw [hchannel]
    have hst : v.channels[c].state = s.channels[c].state := by rw [hchannel]
    rw [State.modChannel_insts, List.foldl_cons, List.foldl_nil, State.mapInsts, tabulate_get, if_pos hi, hinst,
      State.bandOf_of_config hi hcfg, hst]
  · have hpush := Moves.channel (W := .passing c) (s := s) c (fun x => { x with ring := pushRing x.ring y.1 }) rfl
      (fun _ => length_pushRing_le y.1) .refl
    exact .channel c _ rfl (fun x h => (x.advanced_ring y.2).symm ▸ h)
      (.mapInsts _ (fun i _ hi => if_neg hi) (hv ▸ captureAppend_moves c y.1 trivial hpush))

end


/-! ### The passage of input samples, within the settling or the window and up to its end -/

section
variable {s t u : State} {c : Fin 24} {ys zs g g' : List (Int × Bool)} {e e' : Option Byte} {l l' : Option Int}

theorem inRun_iff (st : ChannelState) : st.inRun = true ↔ st = .settling ∨ st = .running := by
  cases st <;> decide

theorem Gathered.inRun (h : Gathered c ys g e l s t) (hrun : s.channels[c].state.inRun = true) :
    t.channels[c].state.inRun = true := by rwa [h.keeps.1]

theorem Gathered.notes (h : Gathered c ys g e l s t) :
    t.channels[c].group = g ∧ t.channels[c].expect = e ∧ t.channels[c].lastInput = l := by
  rw [h.channel]
  exact ⟨rfl, rfl, rfl⟩

/-- Each decimated sample is one step of progress. -/
theorem Gathered.progress (h : Gathered c ys g e l s t) (hrun : s.channels[c].state.inRun = true) :
    t.channels[c].progress = s.channels[c].progress + ys.length ∧ t.channels[c].limit = s.channels[c].limit := by
  have hfold : ∀ (ys : List (Int × Bool)) (x : Channel), x.state.inRun = true →
      (ys.foldl Channel.passed x).progress = x.progress + ys.length ∧ (ys.foldl Channel.passed x).limit = x.limit := by
    intro ys
    induction ys with
    | nil => exact fun x _ => ⟨rfl, rfl⟩
    | cons y ys ih =>
      intro x hx
      obtain ⟨hp, hl, hst⟩ := Channel.passed_progress ((inRun_iff _).mp hx) y
      obtain ⟨hp', hl'⟩ := ih (x.passed y) (by rw [hst]; exact hx)
      rw [List.foldl_cons, hp', hl', hp, hl, List.length_cons]
      exact ⟨by omega, rfl⟩
  rw [h.channel]
  exact hfold ys s.channels[c] hrun

theorem pushInput_incomplete (hrun : s.channels[c].state.inRun = true) {x : Int × Bool}
    (hsize : ¬ s.channels[c].config.entry.decimation.size ≤ (s.channels[c].group ++ [x]).length) :
    Gathered c [] (s.channels[c].group ++ [x]) s.channels[c].expect s.channels[c].lastInput s (pushInput c x s) := by
  rw [pushInput, if_pos hrun]
  dsimp only
  rw [if_neg hsize]
  exact .of_note rfl fun _ => rfl

theorem pushInput_complete (hrun : s.channels[c].state.inRun = true) {x : Int × Bool}
    (hsize : s.channels[c].config.entry.decimation.size ≤ (s.channels[c].group ++ [x]).length) :
    ∃ u, Gathered c [s.channels[c].config.entry.decimation.output (s.channels[c].group ++ [x])] []
      s.channels[c].expect s.channels[c].lastInput s u ∧ pushInput c x s = endCheck c u := by
  have hnote : Gathered c [] [] s.channels[c].expect s.channels[c].lastInput s
      (s.modChannel c fun ch => { ch with group := [] }) := .of_note rfl fun _ => rfl
  have htake := takeDecimated_gathered c (s.channels[c].config.entry.decimation.output (s.channels[c].group ++ [x]))
    (s.modChannel c fun ch => { ch with group := [] })
  rw [modChannel_same] at htake
  refine ⟨_, hnote.trans htake, ?_⟩
  rw [pushInput, if_pos hrun]
  dsimp only
  rw [if_pos hsize, passSample_eq]

theorem endCheck_within (h : s.channels[c].progress < s.channels[c].limit) : endCheck c s = s :=
  if_neg (by omega)

theorem endCheck_end (h : s.channels[c].progress = s.channels[c].limit) : endCheck c s = finish c s :=
  if_pos (by omega)

theorem pushInputs_cons (c : Fin 24) (x : Int × Bool) (xs : List (Int × Bool)) (s : State) :
    pushInputs c (x :: xs) s = pushInputs c xs (pushInput c x s) := rfl

/-- Input samples that end neither settling nor window. -/
theorem pushInputs_within (xs : List (Int × Bool)) (hrun : s.channels[c].state.inRun = true)
    (hdec : decimated s.channels[c].config.entry.decimation s.channels[c].group xs = (ys, g))
    (hroom : ys = [] ∨ s.channels[c].progress + ys.length < s.channels[c].limit) :
    Gathered c ys g s.channels[c].expect s.channels[c].lastInput s (pushInputs c xs s) := by
  induction xs generalizing s ys with
  | nil =>
    rw [decimated, Prod.mk.injEq] at hdec
    obtain ⟨rfl, rfl⟩ := hdec
    exact ⟨rfl, fun _ _ => rfl, .refl⟩
  | cons x xs ih =>
    rw [pushInputs_cons]
    by_cases hsize : s.channels[c].config.entry.decimation.size ≤ (s.channels[c].group ++ [x]).length
    · rcases hrest : decimated s.channels[c].config.entry.decimation [] xs with ⟨ys', g'⟩
      simp only [decimated_complete hsize, hrest, Prod.mk.injEq] at hdec
      obtain ⟨rfl, rfl⟩ := hdec
      obtain ⟨u, hu, hpush⟩ := pushInput_complete hrun hsize
      obtain ⟨hp, hl⟩ := hu.progress hrun
      obtain ⟨hgroup, hexpect, hlast⟩ := hu.notes
      have hroom := hroom.resolve_left (List.cons_ne_nil _ _)
      rw [List.length_cons] at hroom
      rw [List.length_singleton] at hp
      have hu' := ih (s := u) (hu.inRun hrun) (by rw [hu.keeps.2.1, hgroup]; exact hrest) (.inr (by omega))
      rw [hpush, endCheck_within (by omega)]
      rw [hexpect, hlast] at hu'
      exact hu.trans hu'
    · rw [decimated_incomplete hsize] at hdec
      have hu := pushInput_incomplete hrun hsize
      obtain ⟨hp, hl⟩ := hu.progress hrun
      obtain ⟨hgroup, hexpect, hlast⟩ := hu.notes
      have hu' := ih (hu.inRun hrun) (by rw [hu.keeps.2.1, hgroup]; exact hdec)
        (hroom.imp_right fun h => by rw [hp, hl]; exact h)
      rw [hexpect, hlast] at hu'
      exact hu.trans hu'

/-- The decimated samples `ys`, the last of which ends the settling or the window, entered at channel `c`, and further
input samples left the group named. -/
def Ended (c : Fin 24) (ys g : List (Int × Bool)) (e : Option Byte) (l : Option Int) (s t : State) : Prop :=
  ∃ u e' l', Gathered c ys [] e' l' s u ∧ t.channels[c] = (finish c u).channels[c].noted g e l ∧
    ∀ i, instChannel i = c → t.insts[i] = (finish c u).insts[i]

theorem Gathered.trans_ended (h : Gathered c ys g e l s t) (h' : Ended c zs g' e' l' t u) :
    Ended c (ys ++ zs) g' e' l' s u := by
  obtain ⟨v, e₁, l₁, hv, hc, hi⟩ := h'
  exact ⟨v, e₁, l₁, h.trans hv, hc, hi⟩

theorem Ended.trans_gathered (h : Ended c ys g e l s t) (h' : Gathered c [] g' e' l' t u) : Ended c ys g' e' l' s u := by
  obtain ⟨v, e₁, l₁, hv, hc, hi⟩ := h
  refine ⟨v, e₁, l₁, hv, ?_, fun i hic => (h'.insts i hic).trans (hi i hic)⟩
  rw [h'.channel, List.foldl_nil, hc]
  rfl

/-- What goes on at a channel whose settling or window has ended. -/
def Resumes (c : Fin 24) (s : State) : Prop :=
  (finish c s).channels[c] = { s.channels[c] with state := .running, windowProgress := 0, gapped := false }

/-- Input samples up to the one that ends the settling or the window, and further ones that complete no group. -/
theorem pushInputs_last (xs : List (Int × Bool)) (hrun : s.channels[c].state.inRun = true)
    (hdec : decimated s.channels[c].config.entry.decimation s.channels[c].group xs = (ys, g)) (hne : ys ≠ [])
    (hlast : s.channels[c].progress + ys.length = s.channels[c].limit)
    (hfin : ∀ u e l, Gathered c ys [] e l s u → Resumes c u) :
    Ended c ys g s.channels[c].expect s.channels[c].lastInput s (pushInputs c xs s) := by
  induction xs generalizing s ys with
  | nil =>
    rw [decimated, Prod.mk.injEq] at hdec
    exact absurd hdec.1.symm hne
  | cons x xs ih =>
    rw [pushInputs_cons]
    by_cases hsize : s.channels[c].config.entry.decimation.size ≤ (s.channels[c].group ++ [x]).length
    · rcases hrest : decimated s.channels[c].config.entry.decimation [] xs with ⟨ys', g'⟩
      simp only [decimated_complete hsize, hrest, Prod.mk.injEq] at hdec
      obtain ⟨hys, rfl⟩ := hdec
      rw [← hys] at hfin hlast ⊢
      obtain ⟨u, hu, hpush⟩ := pushInput_complete hrun hsize
      obtain ⟨hp, hl⟩ := hu.progress hrun
      obtain ⟨hgroup, hexpect, hinput⟩ := hu.notes
      rw [List.length_singleton] at hp
      rw [List.length_cons] at hlast
      by_cases hend : ys' = []
      · subst hend
        rw [List.length_nil] at hlast
        have hres : (finish c u).channels[c] = _ := hfin u _ _ hu
        have hended : Ended c [s.channels[c].config.entry.decimation.output (s.channels[c].group ++ [x])] []
            s.channels[c].expect s.channels[c].lastInput s (finish c u) :=
          ⟨u, _, _, hu, by rw [hres, hu.channel]; rfl, fun _ _ => rfl⟩
        have hmore := pushInputs_within (s := finish c u) (c := c) (ys := []) (g := g') xs (by rw [hres]; rfl)
          (by rw [hres]; dsimp only; rw [hgroup, hu.keeps.2.1]; exact hrest) (.inl rfl)
        rw [show (finish c u).channels[c].expect = s.channels[c].expect by rw [hres]; exact hexpect,
          show (finish c u).channels[c].lastInput = s.channels[c].lastInput by rw [hres]; exact hinput] at hmore
        rw [hpush, endCheck_end (by omega)]
        exact hended.trans_gathered hmore
      · have hu' := ih (s := u) (hu.inRun hrun) (by rw [hu.keeps.2.1, hgroup]; exact hrest) hend (by omega)
          fun v e l hv => hfin v e l (hu.trans hv)
        have hpos := List.length_pos_iff.mpr hend
        rw [hpush, endCheck_within (by omega)]
        rw [hexpect, hinput] at hu'
        exact hu.trans_ended hu'
    · rw [decimated_incomplete hsize] at hdec
      have hu := pushInput_incomplete hrun hsize
      obtain ⟨hp, hl⟩ := hu.progress hrun
      obtain ⟨hgroup, hexpect, hinput⟩ := hu.notes
      have hu' := ih (hu.inRun hrun) (by rw [hu.keeps.2.1, hgroup]; exact hdec) hne (by rw [hp, hl]; exact hlast)
        fun v e l hv => hfin v e l (hu.trans hv)
      rw [hexpect, hinput] at hu'
      exact hu.trans_ended hu'

end


/-! ### A frame that is taken, with the missing samples ahead of its own (R28, R30) -/

section
variable {s t u : State} {c : Fin 24} {ys zs g g' xs own : List (Int × Bool)} {e e' : Option Byte} {l l' : Option Int}

theorem Ended.keeps (h : Ended c ys g e l s t) (hfin : ∀ u e l, Gathered c ys [] e l s u → Resumes c u) :
    t.channels[c].state = .running ∧ t.channels[c].config = s.channels[c].config ∧ t.channels[c].group = g ∧
      t.channels[c].expect = e ∧ t.channels[c].lastInput = l := by
  obtain ⟨u, e', l', hu, hc, -⟩ := h
  have hres : (finish c u).channels[c] = _ := hfin u _ _ hu
  rw [hc, hres]
  exact ⟨rfl, hu.keeps.2.1, rfl, rfl, rfl⟩

theorem inRun_of_running {x : Channel} (h : x.state = .running) : x.state.inRun = true := (inRun_iff _).mpr (.inr h)

/-- Work at a channel in a run that passes no decimated sample, keeps the group and notes `e` and `l`. -/
def Notes (c : Fin 24) (e : Option Byte) (l : Option Int) (m : State → State) : Prop :=
  ∀ s, s.channels[c].state.inRun = true → Gathered c [] s.channels[c].group e l s (m s)

theorem pushTwo_within {m : State → State} (hm : Notes c e l m) (hrun : s.channels[c].state.inRun = true)
    (hdec : decimated s.channels[c].config.entry.decimation s.channels[c].group (xs ++ own) = (ys, g))
    (hroom : s.channels[c].progress + ys.length < s.channels[c].limit) :
    (pushInputs c xs s).channels[c].state.inRun = true ∧
      Gathered c ys g e l s (pushInputs c own (m (pushInputs c xs s))) := by
  rcases hfill : decimated s.channels[c].config.entry.decimation s.channels[c].group xs with ⟨zs, g₁⟩
  rcases hown : decimated s.channels[c].config.entry.decimation g₁ own with ⟨zs', g₂⟩
  simp only [decimated_append, hfill, hown, Prod.mk.injEq] at hdec
  obtain ⟨hys, rfl⟩ := hdec
  rw [← hys, List.length_append] at hroom
  have hu := pushInputs_within xs hrun hfill (.inr (by omega))
  have hnote := hm _ (hu.inRun hrun)
  rw [hu.notes.1] at hnote
  have hv := hu.trans hnote
  obtain ⟨hgroup, hexpect, hinput⟩ := hv.notes
  obtain ⟨hp, hl⟩ := hv.progress hrun
  rw [List.length_append, List.length_nil] at hp
  have hw := pushInputs_within (ys := zs') (g := g₂) own (hv.inRun hrun) (by rw [hgroup, hv.keeps.2.1]; exact hown)
    (.inr (by omega))
  rw [hexpect, hinput] at hw
  rw [← hys, ← List.append_nil zs]
  exact ⟨hu.inRun hrun, hv.trans hw⟩

theorem pushTwo_last {m : State → State} (hm : Notes c e l m) (hrun : s.channels[c].state.inRun = true)
    (hdec : decimated s.channels[c].config.entry.decimation s.channels[c].group (xs ++ own) = (ys, g)) (hne : ys ≠ [])
    (hlast : s.channels[c].progress + ys.length = s.channels[c].limit)
    (hfin : ∀ u e l, Gathered c ys [] e l s u → Resumes c u) :
    (pushInputs c xs s).channels[c].state.inRun = true ∧
      Ended c ys g e l s (pushInputs c own (m (pushInputs c xs s))) := by
  rcases hfill : decimated s.channels[c].config.entry.decimation s.channels[c].group xs with ⟨zs, g₁⟩
  rcases hown : decimated s.channels[c].config.entry.decimation g₁ own with ⟨zs', g₂⟩
  simp only [decimated_append, hfill, hown, Prod.mk.injEq] at hdec
  obtain ⟨hys, rfl⟩ := hdec
  rw [← hys] at hlast hfin ⊢
  rw [List.length_append] at hlast
  by_cases hend : zs' = []
  · subst hend
    rw [List.append_nil] at hys hfin ⊢
    have hu := pushInputs_last xs hrun hfill (hys ▸ hne) hlast hfin
    obtain ⟨hrunning, -, hgroup, -, -⟩ := hu.keeps hfin
    have hnote := hm _ (inRun_of_running hrunning)
    rw [hgroup] at hnote
    have hv := hu.trans_gathered hnote
    obtain ⟨hst, hcfg, hgroup, hexpect, hinput⟩ := hv.keeps hfin
    have hw := pushInputs_within own (inRun_of_running hst) (by rw [hgroup, hcfg]; exact hown) (.inl rfl)
    rw [hexpect, hinput] at hw
    exact ⟨inRun_of_running hrunning, hv.trans_gathered hw⟩
  · have hpos := List.length_pos_iff.mpr hend
    have hu := pushInputs_within xs hrun hfill (.inr (by omega))
    have hnote := hm _ (hu.inRun hrun)
    rw [hu.notes.1] at hnote
    have hv := hu.trans hnote
    rw [List.append_nil] at hv
    obtain ⟨hgroup, hexpect, hinput⟩ := hv.notes
    obtain ⟨hp, hl⟩ := hv.progress hrun
    have hw := pushInputs_last own (hv.inRun hrun) (by rw [hgroup, hv.keeps.2.1]; exact hown) hend (by omega)
      fun w e l hw => hfin w e l (hv.trans hw)
    rw [hexpect, hinput] at hw
    exact ⟨hu.inRun hrun, hv.trans_ended hw⟩

/-- The count and the notes of a taken frame. -/
def noteFrame (c : Fin 24) (n : Fin 64) (payload : List Byte) (s : State) : State :=
  (countTaken n s).modChannel c fun ch => { ch with
    expect := some (BitVec.ofNat 8 (at8 payload 0 + 1)), lastInput := (samplesOf (payload.drop 2)).getLast? }

theorem modCounts_gathered (n : Fin 64) (f : StreamCounts → StreamCounts) (s : State) :
    Gathered c [] s.channels[c].group s.channels[c].expect s.channels[c].lastInput s (s.modCounts n f) :=
  ⟨rfl, fun _ _ => rfl, .counts _ trivial .refl⟩

theorem noteFrame_notes (c : Fin 24) (n : Fin 64) (payload : List Byte) :
    Notes c (some (BitVec.ofNat 8 (at8 payload 0 + 1))) (samplesOf (payload.drop 2)).getLast? (noteFrame c n payload) := by
  intro s _
  exact (modCounts_gathered n _ s).trans (.of_note rfl fun _ => rfl)

theorem takeFrame_of_run (n : Fin 64) (payload : List Byte) (hrun : s.channels[c].state.inRun = true) :
    takeFrame c n payload s = pushInputs c ((samplesOf (payload.drop 2)).map fun x => (x, false)) (noteFrame c n payload s) :=
  if_pos hrun

/-- The frames ahead of the expectation; none without one (R28). -/
def Channel.ahead (x : Channel) (payload : List Byte) : Nat :=
  x.expect.elim 0 fun n => (at8 payload 0 + 256 - n.toNat) % 256

/-- The samples of the missing frames, filled with the last input sample (R30). -/
def Channel.fill (x : Channel) (payload : List Byte) : List (Int × Bool) :=
  List.replicate (x.ahead payload * x.config.entry.frameSamples) (x.lastInput.getD 0, true)

/-- The gap event of missing frames within the tolerance is counted ahead of the fill. -/
def countMissing (c : Fin 24) (n : Fin 64) (payload : List Byte) (s : State) : State :=
  if s.channels[c].ahead payload = 0 then s else countGap n s

theorem checkFrame_first {n : Fin 64} {payload : List Byte} (hx : s.channels[c].expect = none) :
    checkFrame c n payload s =
      if wellSized payload s.channels[c].config.entry.frameSamples = true then takeFrame c n payload s else s := by
  simp only [checkFrame, hx]

theorem checkFrame_sized {n : Fin 64} {payload : List Byte} {x : Byte} (hx : s.channels[c].expect = some x)
    (hahead : ¬ 128 ≤ (BitVec.ofNat 8 (at8 payload 0) - x).toNat)
    (hsize : wellSized payload s.channels[c].config.entry.frameSamples = true) :
    checkFrame c n payload s =
      if (BitVec.ofNat 8 (at8 payload 0) - x).toNat = 0 then takeFrame c n payload s
      else
        if (gapRule c ((BitVec.ofNat 8 (at8 payload 0) - x).toNat * s.channels[c].config.entry.frameSamples)
            (countGap n s)).discardedAway c (decide (s.channels[c].config.entry.gapTolerance <
              (BitVec.ofNat 8 (at8 payload 0) - x).toNat * s.channels[c].config.entry.frameSamples)) = true then
          gapRule c ((BitVec.ofNat 8 (at8 payload 0) - x).toNat * s.channels[c].config.entry.frameSamples) (countGap n s)
        else takeFrame c n payload
          (gapRule c ((BitVec.ofNat 8 (at8 payload 0) - x).toNat * s.channels[c].config.entry.frameSamples) (countGap n s)) := by
  simp only [checkFrame, hx, if_neg hahead, if_pos hsize]

theorem checkFrame_taken (n : Fin 64) {payload : List Byte}
    (hsize : wellSized payload s.channels[c].config.entry.frameSamples = true)
    (hahead : s.channels[c].ahead payload < 128)
    (htol : s.channels[c].ahead payload * s.channels[c].config.entry.frameSamples ≤ s.channels[c].config.entry.gapTolerance) :
    checkFrame c n payload s =
      takeFrame c n payload (pushInputs c (s.channels[c].fill payload) (countMissing c n payload s)) := by
  cases hx : s.channels[c].expect with
  | none =>
    have hzero : s.channels[c].ahead payload = 0 := by rw [Channel.ahead, hx]; rfl
    rw [checkFrame_first hx, if_pos hsize, Channel.fill, countMissing, if_pos hzero, hzero, Nat.zero_mul]
    rfl
  | some x =>
    have hd : s.channels[c].ahead payload = (BitVec.ofNat 8 (at8 payload 0) - x).toNat := by
      rw [Channel.ahead, hx, sequence_ahead]
      rfl
    rw [hd] at hahead htol
    rw [checkFrame_sized hx (by omega) hsize, Channel.fill, countMissing, hd]
    by_cases hzero : (BitVec.ofNat 8 (at8 payload 0) - x).toNat = 0
    · rw [if_pos hzero, if_pos hzero, hzero, Nat.zero_mul]
      rfl
    · have hbeyond : ¬ s.channels[c].config.entry.gapTolerance < (BitVec.ofNat 8 (at8 payload 0) - x).toNat *
          s.channels[c].config.entry.frameSamples := Nat.not_lt.mpr htol
      rw [if_neg hzero, if_neg hzero, gapRule, if_pos (show _ ≤ (countGap n s).channels[c].config.entry.gapTolerance from htol),
        State.discardedAway, decide_eq_false hbeyond, Bool.false_and, if_neg Bool.false_ne_true]
      rfl

theorem countMissing_gathered (c : Fin 24) (n : Fin 64) (payload : List Byte) (s : State) :
    Gathered c [] s.channels[c].group s.channels[c].expect s.channels[c].lastInput s (countMissing c n payload s) := by
  unfold countMissing
  split
  · exact ⟨rfl, fun _ _ => rfl, .refl⟩
  · exact modCounts_gathered n _ s

/-- What makes a frame with a sequence number taken at once or behind its fill. -/
structure Taken (c : Fin 24) (payload : List Byte) (s : State) : Prop where
  run : s.channels[c].state.inRun = true
  sized : wellSized payload s.channels[c].config.entry.frameSamples = true
  ahead : s.channels[c].ahead payload < 128
  tolerated : s.channels[c].ahead payload * s.channels[c].config.entry.frameSamples ≤ s.channels[c].config.entry.gapTolerance

/-- The samples of the frame itself. -/
def ownSamples (payload : List Byte) : List (Int × Bool) := (samplesOf (payload.drop 2)).map fun v => (v, false)

theorem checkFrame_within (n : Fin 64) {payload : List Byte} (h : Taken c payload s)
    (hdec : decimated s.channels[c].config.entry.decimation s.channels[c].group
      (s.channels[c].fill payload ++ ownSamples payload) = (ys, g))
    (hroom : s.channels[c].progress + ys.length < s.channels[c].limit) :
    Gathered c ys g (some (BitVec.ofNat 8 (at8 payload 0 + 1))) (samplesOf (payload.drop 2)).getLast? s
      (checkFrame c n payload s) := by
  have hmiss := countMissing_gathered c n payload s
  obtain ⟨hp, hl⟩ := hmiss.progress h.run
  rw [List.length_nil] at hp
  obtain ⟨hrun, hgather⟩ := pushTwo_within (noteFrame_notes c n payload) (hmiss.inRun h.run)
    (xs := s.channels[c].fill payload) (own := ownSamples payload) (ys := ys) (g := g)
    (by rw [hmiss.keeps.2.1, hmiss.notes.1]; exact hdec) (by omega)
  rw [checkFrame_taken n h.sized h.ahead h.tolerated, takeFrame_of_run n payload hrun]
  exact hmiss.trans hgather

theorem checkFrame_last (n : Fin 64) {payload : List Byte} (h : Taken c payload s)
    (hdec : decimated s.channels[c].config.entry.decimation s.channels[c].group
      (s.channels[c].fill payload ++ ownSamples payload) = (ys, g)) (hopen : s.channels[c].progress < s.channels[c].limit)
    (hlast : s.channels[c].progress + ys.length = s.channels[c].limit)
    (hfin : ∀ u e l, Gathered c ys [] e l s u → Resumes c u) :
    Ended c ys g (some (BitVec.ofNat 8 (at8 payload 0 + 1))) (samplesOf (payload.drop 2)).getLast? s
      (checkFrame c n payload s) := by
  have hmiss := countMissing_gathered c n payload s
  obtain ⟨hp, hl⟩ := hmiss.progress h.run
  rw [List.length_nil] at hp
  have hne : ys ≠ [] := List.length_pos_iff.mp (by omega)
  obtain ⟨hrun, hended⟩ := pushTwo_last (noteFrame_notes c n payload) (hmiss.inRun h.run)
    (xs := s.channels[c].fill payload) (own := ownSamples payload) (ys := ys) (g := g)
    (by rw [hmiss.keeps.2.1, hmiss.notes.1]; exact hdec) hne (by omega) fun u e l hu => hfin u e l (hmiss.trans hu)
  rw [checkFrame_taken n h.sized h.ahead h.tolerated, takeFrame_of_run n payload hrun]
  exact hmiss.trans_ended hended

/-! #### Its counts -/

theorem pushInputs_counts (c : Fin 24) (xs : List (Int × Bool)) (s : State) : (pushInputs c xs s).counts = s.counts :=
  (pushInputs_moves (W := { Footprint.atChannel c with ice := fun _ => True, items := True }) c xs
    ⟨⟨rfl, fun _ h => h, trivial, trivial⟩, fun _ => trivial, trivial⟩ .refl).counts_stand id

theorem takeFrame_counts (c : Fin 24) (n : Fin 64) (payload : List Byte) (s : State) :
    (takeFrame c n payload s).counts = upd s.counts n fun k => { k with framesTaken := min 65535 (k.framesTaken + 1) } := by
  unfold takeFrame
  dsimp only
  split
  · exact pushInputs_counts c _ _
  · rfl

theorem checkFrame_counts (n : Fin 64) {payload : List Byte} (h : Taken c payload s) :
    (checkFrame c n payload s).counts = upd s.counts n fun k =>
      { framesTaken := min 65535 (k.framesTaken + 1)
        gapEvents := if s.channels[c].ahead payload = 0 then k.gapEvents else min 65535 (k.gapEvents + 1) } := by
  rw [checkFrame_taken n h.sized h.ahead h.tolerated, takeFrame_counts, pushInputs_counts, countMissing]
  split
  · rfl
  · rw [countGap, State.modCounts_counts, upd_upd]
    rfl

end

end Sys2Proof.Machine
end

section
/-! PROOFS. The close of a window (R37, R57 to R68): what each bound instance leaves, whatever the closes ahead of it did, and
the window that follows. -/

namespace Sys2Proof.Machine

/-! ### Loops in their order -/

/-- A loop over all indexes, seen from index `j`: the steps below `j` keep `R` and those above it keep `Q`. -/
theorem forAll_ordered {n : Nat} {f : Fin n → State → State} (R Q : State → State → Prop) (hR : ∀ s, R s s)
    (hQ : ∀ s, Q s s) (transR : ∀ {s t u}, R s t → R t u → R s u) (transQ : ∀ {s t u}, Q s t → Q t u → Q s u) (j : Fin n)
    (hbefore : ∀ i s, i < j → R s (f i s)) (hafter : ∀ i s, j < i → Q s (f i s)) (s : State) :
    ∃ v, R s v ∧ Q (f j v) (forAll n f s) := by
  obtain ⟨l, r, hsplit⟩ := List.append_of_mem (List.mem_finRange j)
  have hsorted := (List.sortedLT_finRange n).pairwise
  rw [hsplit, List.pairwise_append, List.pairwise_cons] at hsorted
  obtain ⟨-, ⟨hr, -⟩, hl⟩ := hsorted
  have hkeep : ∀ (P : State → State → Prop) (_ : ∀ s, P s s) (_ : ∀ {s t u}, P s t → P t u → P s u) (l : List (Fin n)),
      (∀ i ∈ l, ∀ s, P s (f i s)) → ∀ u, P u (l.foldl (fun s i => f i s) u) := by
    intro P hrefl htrans l
    induction l with
    | nil => exact fun _ u => hrefl u
    | cons i l ih => exact fun h u => htrans (h i List.mem_cons_self u) (ih (fun k hk => h k (List.mem_cons_of_mem _ hk)) _)
  refine ⟨l.foldl (fun s i => f i s) s, hkeep R hR transR l (fun i hi u => hbefore i u (hl i hi j List.mem_cons_self)) s, ?_⟩
  rw [forAll, hsplit, List.foldl_append, List.foldl_cons]
  exact hkeep Q hQ transQ r (fun i hi u => hafter i u (hr i hi)) _

/-! ### The close at one instance -/

section
variable {s t u : State} {c : Fin 24} {i j : Fin 96} {b : BandEntry} {w : WindowContext}

/-- What a close leaves at its instance: the result, and a CLASSED window of a MEASURE band also steps the alarm record. -/
def Inst.closed (b : BandEntry) (r : InstResult) (x : Inst) : Inst :=
  { x with
    lastResult := some r
    alarm := if b.role = .measure ∧ r.verdict = .classed then
      x.alarm.step (r.cls.elim 0 Prod.fst) r.marks.disturbed b.persistence b.clear else x.alarm }

/-- What a close at instance `i` of a band of this role may write. -/
def Footprint.closing (i : Fin 96) (role : BandRole) : Footprint :=
  { Footprint.nothing with inst := (· = i), ice := fun _ => role = .track, slots := True, items := True }

theorem persistStep_insts (i : Fin 96) (b : BandEntry) (k : Nat) (d : Bool) (net gen : Nat) (s : State) :
    (persistStep i b k d net gen s).insts = upd s.insts i fun x => { x with alarm := x.alarm.step k d b.persistence b.clear } := by
  have hstep : (s.modInst i fun x => { x with alarm := s.insts[i].alarm.step k d b.persistence b.clear }).insts =
      upd s.insts i fun x => { x with alarm := x.alarm.step k d b.persistence b.clear } := by
    rw [State.modInst_insts]
    exact upd_congr rfl
  simp only [persistStep]
  split
  · exact hstep
  · exact ((levelChange_moves (W := { Footprint.nothing with slots := True }) i b _ _ net gen trivial .refl).insts_eq
      fun _ => id).trans hstep

theorem reportVib_moves {W : Footprint} (i : Fin 96) (k : Nat) (hm : W.items) (h : Moves W s t) :
    Moves W s (reportVib i k t) := report_moves _ hm h

theorem items_insts (h : Moves { Footprint.nothing with items := True } s t) : t.insts = s.insts := h.insts_eq fun _ => id

theorem closeInstance_measure (hb : s.bandOf i = some b) (hw : s.insts[i].window = some w) (hrole : b.role = .measure) :
    Moves (.closing i .measure) s (closeInstance i s) ∧
      (closeInstance i s).insts = upd s.insts i (Inst.closed b (s.closeResult i b w)) := by
  unfold closeInstance
  simp only [hb, hw, hrole]
  split
  next hclassed =>
    refine ⟨.inst i _ rfl (reportVib_moves i _ trivial (persistStep_moves i b _ _ _ _ rfl trivial .refl)), ?_⟩
    rw [State.modInst_insts, items_insts (reportVib_moves i _ trivial .refl), persistStep_insts, upd_upd]
    refine upd_congr ?_
    rw [Function.comp, Inst.closed, if_pos ⟨hrole, hclassed⟩]
    cases (s.closeResult i b w).cls <;> rfl
  next hopen =>
    refine ⟨.inst i _ rfl .refl, ?_⟩
    rw [State.modInst_insts]
    refine upd_congr ?_
    rw [Inst.closed, if_neg fun h => hopen h.2]

theorem closeInstance_track (hb : s.bandOf i = some b) (hw : s.insts[i].window = some w) (hrole : b.role = .track) :
    Moves (.closing i .track) s (closeInstance i s) ∧
      (closeInstance i s).insts = upd s.insts i (Inst.closed b (s.closeResult i b w)) := by
  unfold closeInstance
  simp only [hb, hw, hrole]
  refine ⟨.inst i _ rfl (handOver_moves i _ _ _ _ rfl trivial (reportTrack_moves _ trivial .refl)), ?_⟩
  have hhand := handOver_moves (W := { Footprint.nothing with ice := fun _ => True, slots := True, items := True }) (s := s)
    i (s.turbineOf (instChannel i)) (s.closeResult i b w).verdict s.insts[i].crossings
    w.gen trivial trivial (reportTrack_moves (s.turbineOf (instChannel i)) trivial .refl)
  rw [State.modInst_insts, hhand.insts_eq fun _ => id]
  refine upd_congr ?_
  rw [Inst.closed, if_neg (by rw [hrole]; rintro ⟨h, -⟩; cases h)]

theorem closeInstance_of_window (hb : s.bandOf i = some b) (hw : s.insts[i].window = some w) :
    Moves (.closing i b.role) s (closeInstance i s) ∧
      (closeInstance i s).insts = upd s.insts i (Inst.closed b (s.closeResult i b w)) := by
  cases hrole : b.role with
  | measure => exact closeInstance_measure hb hw hrole
  | track => exact closeInstance_track hb hw hrole

theorem closeInstance_idle (h : s.bandOf i = none ∨ s.insts[i].window = none) : closeInstance i s = s := by
  unfold closeInstance
  split
  next b w hb hw => rcases h with h | h <;> simp_all only [reduceCtorEq]
  next => rfl

end

/-! ### The closes of a window at all instances of its channel -/

section
variable {s t u : State} {c : Fin 24} {i j : Fin 96} {b : BandEntry} {w : WindowContext}

/-- The stored status of a turbine is written by the turbine context unit alone. -/
theorem Moves.status_stands {W : Footprint} (h : Moves W s t) (ht : ¬ W.turbines) (k : Fin 8) :
    t.turbines[k].status = s.turbines[k].status ∧ t.turbines[k].freshness = s.turbines[k].freshness := by
  induction h with
  | refl => exact ⟨rfl, rfl⟩
  | offer o _ ih => obtain ⟨q, e, heq⟩ := offer_eq o _; rw [heq]; exact ih
  | worst k' n _ ih =>
    rw [State.modTurbine_turbines, upd_get]
    split
    · exact ih
    · exact ih
  | turbine k' f hw => exact absurd hw ht
  | iceState k' f v hw _ _ ih =>
    obtain ⟨a, heq⟩ := writeCurtail_eq k' v (State.modIce _ k' f)
    rw [heq, State.modTurbine_turbines, upd_get]
    split
    · exact ih
    · exact ih
  | _ => assumption

/-- Two states agree in what the close at instance `i` looks at, the ice records apart. -/
structure SameClose (i : Fin 96) (s t : State) : Prop where
  shell : t.shell = s.shell
  channels : t.channels = s.channels
  points : t.points = s.points
  status : ∀ k : Fin 8, t.turbines[k].status = s.turbines[k].status
  inst : t.insts[i] = s.insts[i]

theorem SameClose.refl (i : Fin 96) (s : State) : SameClose i s s := ⟨rfl, rfl, rfl, fun _ => rfl, rfl⟩

theorem SameClose.trans (h : SameClose i s t) (h' : SameClose i t u) : SameClose i s u :=
  ⟨h'.shell.trans h.shell, h'.channels.trans h.channels, h'.points.trans h.points, fun k => (h'.status k).trans (h.status k),
    h'.inst.trans h.inst⟩

theorem SameClose.bandOf (h : SameClose i s t) (j : Fin 96) : t.bandOf j = s.bandOf j := by
  rw [State.bandOf, State.bandOf, h.channels]

theorem Moves.sameClose {W : Footprint} (h : Moves W s t) (hc : ∀ c, ¬ W.channel c) (hp : ∀ p, ¬ W.point p)
    (ht : ¬ W.turbines) (hi : ¬ W.inst i) : SameClose i s t :=
  ⟨h.shell, h.channels_eq hc, h.points_eq hp, fun k => (h.status_stands ht k).1, h.inst_stands hi⟩

/-- The closes ahead of instance `i` at its channel are of MEASURE bands. -/
def MeasureBefore (i : Fin 96) (s : State) : Prop :=
  ∀ (j : Fin 96) (b : BandEntry), instChannel j = instChannel i → j < i → s.bandOf j = some b → b.role = .measure

theorem closeInstance_other (hij : i ≠ j) (s : State) : SameClose i s (closeInstance j s) ∧
    (instChannel j = instChannel i → j < i → MeasureBefore i s → (closeInstance j s).ice = s.ice) := by
  cases hb : s.bandOf j with
  | none => rw [closeInstance_idle (.inl hb)]; exact ⟨.refl i s, fun _ _ _ => rfl⟩
  | some b =>
    cases hw : s.insts[j].window with
    | none => rw [closeInstance_idle (.inr hw)]; exact ⟨.refl i s, fun _ _ _ => rfl⟩
    | some w =>
      obtain ⟨hmoves, -⟩ := closeInstance_of_window hb hw
      refine ⟨hmoves.sameClose (fun _ => id) (fun _ => id) id hij, fun hc hlt hbefore => ?_⟩
      have hrole := hbefore j b hc hlt hb
      exact hmoves.ice_eq fun _ => (by rw [hrole]; exact fun h : BandRole.measure = .track => by cases h)

/-- The closes of a window, seen from instance `i`: the state its close starts from agrees with the window's end, the ice
records too where the closes ahead are of MEASURE bands, and what it leaves stands. -/
theorem closes_around (i : Fin 96) (s : State) : ∃ v, SameClose i s v ∧ (MeasureBefore i s → v.ice = s.ice) ∧
    SameClose i (closeInstance i v) (forAll 4 (fun p s => closeInstance (instId (instChannel i) p) s) s) := by
  have hself : instId (instChannel i) (instPos i) = i := Fin.ext (by simp only [instId, instChannel, instPos]; omega)
  have hother (p : Fin 4) (hp : p ≠ instPos i) : i ≠ instId (instChannel i) p := fun h =>
    hp (by rw [h, instPos_instId])
  obtain ⟨v, ⟨hsame, hice⟩, hrest⟩ := forAll_ordered (f := fun p s => closeInstance (instId (instChannel i) p) s)
    (fun s t => SameClose i s t ∧ (MeasureBefore i s → t.ice = s.ice)) (SameClose i) (fun s => ⟨.refl i s, fun _ => rfl⟩)
    (.refl i) (fun {s t u} ⟨h, hice⟩ ⟨h', hice'⟩ => ⟨h.trans h', fun hb => (hice' (fun j b hj hlt hbj =>
      hb j b hj hlt (h.bandOf j ▸ hbj))).trans (hice hb)⟩) .trans (instPos i)
    (fun p s hp => by
      obtain ⟨h, hi⟩ := closeInstance_other (hother p (ne_of_lt hp)) s
      refine ⟨h, hi (instChannel_instId _ _) ?_⟩
      simp only [Fin.lt_def, instPos, instId, instChannel] at hp ⊢
      omega)
    (fun p s hp => (closeInstance_other (hother p (ne_of_gt hp)) s).1) s
  rw [hself] at hrest
  exact ⟨v, hsame, hice, hrest⟩

end

/-! ### The window that follows (R37, R56) -/

section
variable {s t u : State} {c : Fin 24} {i : Fin 96} {b : BandEntry} {w : WindowContext}

theorem startWindow_channel (c : Fin 24) (void : Bool) (s : State) : (startWindow c void s).channels[c] =
    { s.channels[c] with state := .running, windowProgress := 0, gapped := false } := modChannel_same _ _ _

theorem startWindow_inst (void : Bool) (hb : s.bandOf i = some b) : ∃ w : WindowContext,
    (startWindow (instChannel i) void s).insts[i] = s.insts[i].startWindow w ∧ w.gen = s.channels[instChannel i].gen ∧
      w.void = void := by
  refine ⟨s.snapshot (instChannel i) void, ?_, rfl, rfl⟩
  have hband : (s.modChannel (instChannel i) fun x => { x with state := .running, windowProgress := 0, gapped := false }).bandOf i =
      some b := (State.bandOf_of_config (s := s) rfl (by rw [modChannel_same])).trans hb
  unfold startWindow
  rw [State.mapInsts, tabulate_get]
  exact if_pos ⟨rfl, by rw [hband]; rfl⟩

theorem closes_stand (c : Fin 24) (s : State) :
    (forAll 4 (fun p s => closeInstance (instId c p) s) s).channels = s.channels ∧
      (forAll 4 (fun p s => closeInstance (instId c p) s) s).shell = s.shell :=
  forAll_keeps (fun u => u.channels = s.channels ∧ u.shell = s.shell) (fun p u ⟨hc, hs⟩ => by
    have hmoves := closeInstance_moves (W := { Footprint.nothing with
      inst := fun i => instChannel i = instChannel (instId c p), ice := fun _ => True, slots := True, items := True }) (s := u)
      (instId c p) ⟨fun _ h => h, fun _ => trivial, trivial, trivial⟩ .refl
    exact ⟨(hmoves.channels_eq fun _ => id).trans hc, hmoves.shell.trans hs⟩) s ⟨rfl, rfl⟩

/-- A boundary without adoption or suspension starts the next window at once. -/
theorem closeWindow_of_current (hbound : s.channelBound c = true) (hmark : s.channels[c].marked = false)
    (hgen : s.channels[c].gen = s.generation) :
    closeWindow c s = startWindow c false (forAll 4 (fun p s => closeInstance (instId c p) s) s) := by
  obtain ⟨hchannels, hshell⟩ := closes_stand c s
  unfold closeWindow
  generalize forAll 4 (fun p s => closeInstance (instId c p) s) s = v at hchannels hshell ⊢
  have hcurrent : v.channels[c].gen = v.generation := by rw [hchannels, State.generation_of_shell hshell]; exact hgen
  have hbound' : v.channelBound c = true := by
    rw [State.channelBound_congr (State.tables_of_shell hshell) (by rw [hchannels])]
    exact hbound
  have hmark' : v.channels[c].marked = false := by rw [hchannels]; exact hmark
  simp only [boundary, adoptIfPending_of_current hcurrent, channelPending_eq_false hcurrent, hbound', hmark', Bool.false_and,
    Bool.true_eq_false, Bool.false_eq_true, if_false]

theorem finish_of_settling (h : s.channels[c].state = .settling) : finish c s = startWindow c false s :=
  if_neg (by rw [h]; decide)

theorem finish_of_running (h : s.channels[c].state = .running) : finish c s = closeWindow c s := if_pos h

/-- The instance of a window's close: its result judged by a state that agrees, then the next window. -/
theorem closeWindow_inst (hbound : s.channelBound (instChannel i) = true)
    (hmark : s.channels[instChannel i].marked = false) (hgen : s.channels[instChannel i].gen = s.generation)
    (hb : s.bandOf i = some b) (hw : s.insts[i].window = some w) :
    ∃ (v : State) (w' : WindowContext), SameClose i s v ∧ (MeasureBefore i s → v.ice = s.ice) ∧
      w'.gen = s.channels[instChannel i].gen ∧ w'.void = false ∧
      (closeWindow (instChannel i) s).insts[i] = (s.insts[i].closed b (v.closeResult i b w)).startWindow w' := by
  obtain ⟨v, hsame, hice, hrest⟩ := closes_around i s
  obtain ⟨hchannels, -⟩ := closes_stand (instChannel i) s
  have hv : (closeInstance i v).insts[i] = s.insts[i].closed b (v.closeResult i b w) := by
    rw [(closeInstance_of_window ((hsame.bandOf i).trans hb) (by rw [hsame.inst]; exact hw)).2, upd_same, hsame.inst]
  obtain ⟨w', hstart, hwgen, hvoid⟩ := startWindow_inst (i := i) (b := b) false
    (s := forAll 4 (fun p s => closeInstance (instId (instChannel i) p) s) s)
    (by rw [State.bandOf, hchannels]; exact hb)
  refine ⟨v, w', hsame, hice, by rw [hwgen, hchannels], hvoid, ?_⟩
  rw [closeWindow_of_current hbound hmark hgen, hstart, hrest.inst, hv]

end

/-! ### The result of a close (R57 to R64) -/

section
variable {s v : State} {i : Fin 96} {b : BandEntry} {w : WindowContext} {k : Fin 8} {n : Nat}

theorem classOf_eq (th : Thresholds) (net : Nat) :
    classOf th net = ([th.t1, th.t2, th.t3].filter fun l => l ≤ net).length := by
  have hone (a : Nat) (l : List Nat) : ((a :: l).filter fun l => l ≤ net).length =
      (if a ≤ net then 1 else 0) + (l.filter fun l => l ≤ net).length := by
    by_cases h : a ≤ net
    · rw [List.filter_cons_of_pos (by simpa using h), if_pos h, List.length_cons, Nat.add_comm]
    · rw [List.filter_cons_of_neg (by simpa using h), if_neg h, Nat.zero_add]
  rw [hone, hone, hone, List.filter_nil, List.length_nil, Nat.add_zero, ← Nat.add_assoc, classOf]

theorem disturbed_iff (s : State) (k : Fin 8) : s.disturbed k = true ↔ s.tables.turbines[k].valid = true ∧
    ∃ p, s.tables.turbines[k].gridPoint = some p ∧ s.points[p].alarm = .alarm := by
  unfold State.disturbed
  cases s.tables.turbines[k].gridPoint with
  | none => simp only [Bool.and_false, Bool.false_eq_true, reduceCtorEq, false_and, exists_false, and_false]
  | some p => simp only [Bool.and_eq_true, decide_eq_true_eq, Option.some.injEq, exists_eq_left']

theorem verdictOf_void (op : OpState) (hv : w.void = true) : verdictOf w b op = .void := if_pos hv

theorem verdictOf_noStatus (op : OpState) (hv : w.void = false) (hf : w.fresh = false) :
    verdictOf w b op = .unevaluated .noStatus := by simp [verdictOf, hv, hf]

theorem verdictOf_notProducing (op : OpState) (hv : w.void = false) (hf : w.fresh = true) (hp : w.producing = false) :
    verdictOf w b op = .unevaluated (if op = .service then .service else .notRunning) := by simp [verdictOf, hv, hf, hp]

theorem verdictOf_speed (op : OpState) {lo hi : Nat} (hv : w.void = false) (hf : w.fresh = true) (hp : w.producing = true)
    (hs : w.speed = some (lo, hi)) :
    verdictOf w b op = if b.speedMin ≤ lo ∧ hi ≤ b.speedMax then .classed else .unevaluated .offSpeed := by
  have hgate : speedInGate b (some (lo, hi)) = decide (b.speedMin ≤ lo ∧ hi ≤ b.speedMax) := (Bool.decide_and _ _).symm
  simp only [verdictOf, hv, hf, hp, hs, hgate, Bool.false_eq_true, Bool.not_true, if_false, Bool.not_eq_true',
    decide_eq_false_iff_not]
  by_cases hin : b.speedMin ≤ lo ∧ hi ≤ b.speedMax
  · rw [if_pos hin, if_neg (not_not.mpr hin)]
  · rw [if_neg hin, if_pos hin]

theorem net_eq (ms floor : Nat) : ms - floor = if floor < ms then ms - floor else 0 := by
  split
  · rfl
  · omega

/-- The result of a close taken in a state that agrees with `s` in clock, tables, points and stored status. -/
theorem closeResult_judges (hclock : v.clock = s.clock) (htables : v.tables = s.tables) (hpoints : v.points = s.points)
    (hstatus : v.turbines[k].status = s.turbines[k].status)
    (hk : v.channels[instChannel i].config.entry.turbine = k) (hn : v.channels[instChannel i].config.entry.window = n) :
    s.Judges k n b w v.insts[i] (chosenSet b v.ice[k].state) (v.closeResult i b w) := by
  have hdisturbed : v.disturbed k = true ↔ _ := disturbed_iff v k
  rw [htables, hpoints] at hdisturbed
  subst hk hn
  have hop : v.turbines[v.channels[instChannel i].config.entry.turbine].status.op = _ := congrArg Status.op hstatus
  refine ⟨rfl, congrArg Clock.counter hclock, rfl, net_eq _ _, verdictOf_void _, verdictOf_noStatus _,
    fun hv hf hp => ?_, fun lo hi hv hf hp hs => verdictOf_speed _ hv hf hp hs, fun hrole => ⟨?_, _, rfl, ?_⟩,
    fun hrole => ⟨?_, ?_⟩, rfl, rfl, rfl, decide_eq_true_iff, decide_eq_true_iff, hdisturbed⟩
  · rw [← hop]
    exact verdictOf_notProducing _ hv hf hp
  · simp only [State.closeResult, hrole]
  · rw [← classOf_eq]
    simp only [State.closeResult, hrole]
  · simp only [State.closeResult, hrole]
  · simp only [State.closeResult, hrole]

end

end Sys2Proof.Machine
end

section
/-! PROOFS. The SAMPLE frame that is taken (R28, R30, R32, R33, R36, R37, R57 to R68): within the settling or the window, up to
its end, and as the first of a run. -/

namespace Sys2Proof.Machine

/-! ### A frame at a channel in a run -/

section
variable {s t u : State} {c : Fin 24} {ys g : List (Int × Bool)} {n : Fin 64} {payload : List Byte}

/-- A channel after a taken frame, its progress apart. -/
def Channel.landed (payload : List Byte) (ys g : List (Int × Bool)) (x : Channel) : Channel :=
  { x with
    expect := some (BitVec.ofNat 8 (at8 payload 0 + 1)), lastInput := (samplesOf (payload.drop 2)).getLast?, group := g
    ring := newestRing (x.ring ++ ys.map Prod.fst) }

/-- The input samples of a frame, the fill ahead of its own, give the decimated samples `ys` and leave the group `g`. -/
def Decimates (c : Fin 24) (payload : List Byte) (ys g : List (Int × Bool)) (s : State) : Prop :=
  decimated s.channels[c].config.entry.decimation s.channels[c].group
    (s.channels[c].fill payload ++ ownSamples payload) = (ys, g)

theorem progress_settling {x : Channel} (h : x.state = .settling) :
    x.progress = x.settleProgress ∧ x.limit = x.config.entry.settle := by
  rw [Channel.progress, Channel.limit, h]
  exact ⟨rfl, rfl⟩

theorem progress_running {x : Channel} (h : x.state = .running) :
    x.progress = x.windowProgress ∧ x.limit = x.config.entry.window := by
  rw [Channel.progress, Channel.limit, h]
  exact ⟨rfl, rfl⟩

theorem frame_settling (h : Taken c payload s) (hdec : Decimates c payload ys g s) (hring : s.channels[c].ring.length ≤ 2048)
    (hst : s.channels[c].state = .settling)
    (hroom : s.channels[c].settleProgress + ys.length < s.channels[c].config.entry.settle) :
    (checkFrame c n payload s).channels[c] = { s.channels[c].landed payload ys g with
      settleProgress := s.channels[c].settleProgress + ys.length } ∧
    ∀ (i : Fin 96) (b : BandEntry), instChannel i = c → s.bandOf i = some b →
      (checkFrame c n payload s).insts[i] = ys.foldl (fun z v => z.settle b v.1) s.insts[i] := by
  obtain ⟨hp, hl⟩ := progress_settling hst
  have hgather := checkFrame_within n h hdec (by rw [hp, hl]; exact hroom)
  refine ⟨?_, fun i b hi hb => ?_⟩
  · rw [hgather.channel, foldl_passed_settling hst hring]
    rfl
  · rw [hgather.insts i hi, hst, hb, foldl_inst_settling]

theorem frame_running (h : Taken c payload s) (hdec : Decimates c payload ys g s) (hring : s.channels[c].ring.length ≤ 2048)
    (hst : s.channels[c].state = .running)
    (hroom : s.channels[c].windowProgress + ys.length < s.channels[c].config.entry.window) :
    (checkFrame c n payload s).channels[c] = { s.channels[c].landed payload ys g with
      windowProgress := s.channels[c].windowProgress + ys.length, gapped := s.channels[c].gapped || ys.any Prod.snd } ∧
    ∀ (i : Fin 96) (b : BandEntry), instChannel i = c → s.bandOf i = some b →
      (checkFrame c n payload s).insts[i] = ys.foldl (fun z v => z.sample b v.1) s.insts[i] := by
  obtain ⟨hp, hl⟩ := progress_running hst
  have hgather := checkFrame_within n h hdec (by rw [hp, hl]; exact hroom)
  refine ⟨?_, fun i b hi hb => ?_⟩
  · rw [hgather.channel, foldl_passed_running hst hring]
    rfl
  · rw [hgather.insts i hi, hst, hb, foldl_inst_running]

theorem frame_settled (h : Taken c payload s) (hdec : Decimates c payload ys g s) (hring : s.channels[c].ring.length ≤ 2048)
    (hst : s.channels[c].state = .settling) (hopen : s.channels[c].settleProgress < s.channels[c].config.entry.settle)
    (hlast : s.channels[c].settleProgress + ys.length = s.channels[c].config.entry.settle) :
    (checkFrame c n payload s).channels[c] = { s.channels[c].landed payload ys g with
      state := .running, settleProgress := s.channels[c].config.entry.settle, windowProgress := 0, gapped := false } ∧
    ∀ (i : Fin 96) (b : BandEntry), instChannel i = c → s.bandOf i = some b →
      (checkFrame c n payload s).insts[i].sumSq = 0 ∧
        ∃ w, (checkFrame c n payload s).insts[i].window = some w ∧ w.gen = s.channels[c].gen ∧ w.void = false := by
  obtain ⟨hp, hl⟩ := progress_settling hst
  have hfinish (u : State) (e l) (hu : Gathered c ys [] e l s u) : finish c u = startWindow c false u :=
    finish_of_settling (hu.keeps.1.trans hst)
  obtain ⟨u, e, l, hu, hchannel, hinsts⟩ := checkFrame_last n h hdec (by rw [hp, hl]; exact hopen)
    (by rw [hp, hl]; exact hlast) fun u e l hu => by rw [Resumes, hfinish u e l hu, startWindow_channel]
  rw [hfinish u e l hu] at hchannel hinsts
  obtain ⟨-, hcfg, hgen, -⟩ := hu.keeps
  refine ⟨?_, fun i b hi hb => ?_⟩
  · rw [hchannel, startWindow_channel, hu.channel, foldl_passed_settling hst hring, hlast]
    simp only [Channel.noted, Channel.landed]
  · have hband : u.bandOf i = some b := (State.bandOf_of_config hi hcfg).trans hb
    subst hi
    obtain ⟨w, hstart, hwgen, hvoid⟩ := startWindow_inst false hband
    rw [hinsts i rfl, hstart]
    exact ⟨rfl, w, rfl, hwgen.trans hgen, hvoid⟩

/-- The state a window's last sample leaves agrees with the frame's start in what a close looks at. -/
theorem Gathered.sameClose {e : Option Byte} {l : Option Int} (h : Gathered c ys g e l s u) :
    u.clock = s.clock ∧ u.tables = s.tables ∧ u.points = s.points ∧ u.ice = s.ice ∧ u.generation = s.generation ∧
      ∀ k : Fin 8, u.turbines[k].status = s.turbines[k].status :=
  ⟨State.clock_of_shell h.moves.shell, State.tables_of_shell h.moves.shell, h.moves.points_eq fun _ => id,
    h.moves.ice_eq fun _ => id, State.generation_of_shell h.moves.shell, fun k => (h.moves.status_stands id k).1⟩

theorem chosenSet_normal {b : BandEntry} (st : IceState) (h : b.iceRelaxed = false) : chosenSet b st = .normal := by
  rw [chosenSet, h]
  rfl

theorem chosenSet_relaxed {b : BandEntry} (st : IceState) (h : b.iceRelaxed = true) :
    chosenSet b st = if st = .iced ∨ st = .thawing then .ice else .normal := by
  rw [chosenSet, h]
  cases st <;> rfl

/-- What the last sample of a window leaves at an instance of its channel. -/
def ClosesInst (i : Fin 96) (b : BandEntry) (w : WindowContext) (z : Inst) (k : Fin 8) (gapped : Bool) (s t : State) : Prop :=
  t.insts[i].sumSq = 0 ∧
    (∃ w', t.insts[i].window = some w' ∧ w'.gen = s.channels[instChannel i].gen ∧ w'.void = false) ∧
    ∃ r set, t.insts[i].lastResult = some r ∧
      s.Judges k s.channels[instChannel i].config.entry.window b w z set r ∧ r.marks.gapped = gapped ∧
      (b.iceRelaxed = false → set = .normal) ∧
      (MeasureBefore i s → b.iceRelaxed = true →
        set = if s.ice[k].state = .iced ∨ s.ice[k].state = .thawing then .ice else .normal) ∧
      (∀ n, r.cls = some (n, set) → r.verdict = .classed →
        t.insts[i].alarm = s.insts[i].alarm.step n r.marks.disturbed b.persistence b.clear) ∧
      (b.role = .track ∨ r.verdict ≠ .classed → t.insts[i].alarm = s.insts[i].alarm)

theorem Inst.closed_alarm (b : BandEntry) (r : InstResult) (x : Inst) (set : ThresholdSet)
    (htrack : b.role = .track → r.cls = none) :
    (∀ n, r.cls = some (n, set) → r.verdict = .classed →
      (x.closed b r).alarm = x.alarm.step n r.marks.disturbed b.persistence b.clear) ∧
    (b.role = .track ∨ r.verdict ≠ .classed → (x.closed b r).alarm = x.alarm) := by
  refine ⟨fun n hcls hv => ?_, fun h => ?_⟩
  · have hrole : b.role = .measure := by
      cases hb : b.role with
      | measure => rfl
      | track => rw [htrack hb] at hcls; cases hcls
    rw [Inst.closed, if_pos ⟨hrole, hv⟩, hcls]
    rfl
  · rw [Inst.closed, if_neg]
    rintro ⟨hrole, hv⟩
    rcases h with h | h
    · rw [hrole] at h; cases h
    · exact h hv

theorem frame_closed (h : Taken c payload s) (hdec : Decimates c payload ys g s) (hring : s.channels[c].ring.length ≤ 2048)
    (hst : s.channels[c].state = .running) (hopen : s.channels[c].windowProgress < s.channels[c].config.entry.window)
    (hlast : s.channels[c].windowProgress + ys.length = s.channels[c].config.entry.window)
    (hbound : s.channelBound c = true) (hmark : s.channels[c].marked = false) (hgen : s.channels[c].gen = s.generation) :
    (checkFrame c n payload s).channels[c] = { s.channels[c].landed payload ys g with windowProgress := 0, gapped := false } ∧
    ∀ (i : Fin 96) (b : BandEntry) (w : WindowContext), instChannel i = c → s.bandOf i = some b →
      s.insts[i].window = some w →
      ClosesInst i b w (ys.foldl (fun z v => z.sample b v.1) s.insts[i]) s.channels[c].config.entry.turbine
        (s.channels[c].gapped || ys.any Prod.snd) s (checkFrame c n payload s) := by
  obtain ⟨hp, hl⟩ := progress_running hst
  have hready (u : State) (e l) (hu : Gathered c ys [] e l s u) : u.channels[c].state = .running ∧
      u.channelBound c = true ∧ u.channels[c].marked = false ∧ u.channels[c].gen = u.generation := by
    obtain ⟨hst', hcfg, hgen', hmark'⟩ := hu.keeps
    obtain ⟨-, htables, -, -, hgeneration, -⟩ := hu.sameClose
    exact ⟨hst'.trans hst, (State.channelBound_congr htables hcfg).trans hbound, hmark'.trans hmark,
      by rw [hgen', hgeneration, hgen]⟩
  have hresume (u : State) (e l) (hu : Gathered c ys [] e l s u) : Resumes c u := by
    obtain ⟨hst', hbound', hmark', hgen'⟩ := hready u e l hu
    rw [Resumes, finish_of_running hst', closeWindow_of_current hbound' hmark' hgen', startWindow_channel,
      (closes_stand c u).1]
  obtain ⟨u, e, l, hu, hchannel, hinsts⟩ := checkFrame_last n h hdec (by rw [hp, hl]; exact hopen)
    (by rw [hp, hl]; exact hlast) hresume
  obtain ⟨hst', hbound', hmark', hgen'⟩ := hready u e l hu
  obtain ⟨-, hcfg, hgenkept, -⟩ := hu.keeps
  have hres : (finish c u).channels[c] = _ := hresume u e l hu
  have hused : u.channels[c] = _ := hu.channel
  rw [foldl_passed_running hst hring] at hused
  refine ⟨?_, fun i b w hi hb hw => ?_⟩
  · rw [hchannel, hres, hused]
    simp only [Channel.noted, Channel.landed, hst]
  · subst hi
    have hz : u.insts[i] = ys.foldl (fun z v => z.sample b v.1) s.insts[i] := by
      rw [hu.insts i rfl, hst, hb, foldl_inst_running]
    obtain ⟨hwindow, halarm, -⟩ := foldl_inst_eq .running (some b) ys s.insts[i]
    rw [foldl_inst_running, ← hz] at hwindow halarm
    obtain ⟨v, w', hsame, hice, hwgen, hvoid, hclosed⟩ := closeWindow_inst hbound' hmark' hgen'
      ((State.bandOf_of_config rfl hcfg).trans hb) (hwindow.trans hw)
    obtain ⟨hclock, htables, hpoints, hices, -, hstatus⟩ := hu.sameClose
    have hchannelv : v.channels[instChannel i].config = s.channels[instChannel i].config := by rw [hsame.channels, hcfg]
    have hjudges := closeResult_judges (s := s) (v := v) (i := i) (b := b) (w := w)
      ((State.clock_of_shell hsame.shell).trans hclock) ((State.tables_of_shell hsame.shell).trans htables)
      (hsame.points.trans hpoints) ((hsame.status _).trans (hstatus _))
      (congrArg (fun x : ChannelConfig => x.entry.turbine) hchannelv) (congrArg (fun x : ChannelConfig => x.entry.window) hchannelv)
    rw [hsame.inst, hz] at hjudges
    obtain ⟨hstep, hstand⟩ := Inst.closed_alarm b (v.closeResult i b w) u.insts[i]
      (chosenSet b v.ice[s.channels[instChannel i].config.entry.turbine].state)
      fun hrole => by simp only [State.closeResult, hrole]
    rw [ClosesInst, hinsts i rfl, finish_of_running hst', hclosed]
    refine ⟨rfl, ⟨w', rfl, hwgen.trans hgenkept, hvoid⟩, _, _, rfl, hjudges, ?_, chosenSet_normal _, fun hbefore hrelaxed => ?_,
      fun n hcls hv => (hstep n hcls hv).trans (by rw [halarm]), fun h => (hstand h).trans halarm⟩
    · show v.channels[instChannel i].gapped = _
      rw [hsame.channels, hused]
      rfl
    · have hbefore' : MeasureBefore i u := fun j b' hj hlt hbj =>
        hbefore j b' hj hlt ((State.bandOf_of_config hj hcfg).symm.trans hbj)
      rw [chosenSet_relaxed _ hrelaxed, hice hbefore', hices]

end

/-! ### The frame handed to the channel -/

section
variable {s t u : State} {c : Fin 24} {e : Fin 64} {bytes payload : List Byte}

theorem sampleFrame_exec (h : s.hands 0x01 bytes payload e (.vibChannel c)) :
    ∃ u, Arrives s u ∧ exec (.frameReception .field bytes) s = .next (arbitrate (takeSample c e payload u)) := by
  obtain ⟨u, harrives, hexec⟩ := exec_hands h (.inl rfl)
  obtain ⟨-, -, hkind, hpayload, -, hfeed⟩ := h
  rw [handOverFrame_sample (by rw [harrives]; exact hfeed) hkind, ← hpayload] at hexec
  exact ⟨u, harrives, hexec⟩

/-- What a SAMPLE frame may write. -/
def Footprint.sampling (c : Fin 24) : Footprint :=
  { Footprint.atChannel c with ice := fun _ => True, items := True, counts := True }

theorem takeSample_at (c : Fin 24) (e : Fin 64) (payload : List Byte) (s : State) :
    Moves (.sampling c) s (takeSample c e payload s) :=
  takeSample_moves c e payload ⟨⟨rfl, fun _ h => h, trivial, trivial⟩, fun _ => trivial, trivial⟩ trivial .refl

theorem takeSample_others (harrives : Arrives s u) (e : Fin 64) (payload : List Byte) :
    (∀ c' : Fin 24, c' ≠ c → (arbitrate (takeSample c e payload u)).channels[c'] = s.channels[c']) ∧
      ∀ i : Fin 96, instChannel i ≠ c → (arbitrate (takeSample c e payload u)).insts[i] = s.insts[i] := by
  have hmoves := takeSample_at c e payload u
  refine ⟨fun c' hc => ?_, fun i hi => ?_⟩
  · rw [arbitrate_channels, hmoves.channel_stands hc, harrives]
  · rw [arbitrate_insts, hmoves.inst_stands hi, harrives]

theorem wellSized_of {fs : Nat} (hlen : payload.length = 2 + 2 * fs) (hsize : at8 payload 1 = fs) :
    wellSized payload fs = true := by
  rw [wellSized, hsize, decide_eq_true hlen, decide_eq_true rfl]
  rfl

theorem State.Judges.congr {k : Fin 8} {n : Nat} {b : BandEntry} {w : WindowContext} {z : Inst} {set : ThresholdSet}
    {r : InstResult} (hclock : t.clock = s.clock) (hturbines : t.turbines = s.turbines) (htables : t.tables = s.tables)
    (hpoints : t.points = s.points) (h : t.Judges k n b w z set r) : s.Judges k n b w z set r := by
  unfold State.Judges at h ⊢
  rwa [hclock, hturbines, htables, hpoints] at h

end

/-- Settles O12: the samples pass one by one, up to the one that ends the settling or closes the window. -/
theorem sampleFrameTaken : Obligations.SampleFrameTaken := by
  intro bytes payload e c d fs x y ys group s hhands hx hfs hlen hsize hring hrun hd hd128 htol hdec hy
  obtain ⟨u, harrives, hexec⟩ := sampleFrame_exec hhands
  obtain ⟨hchannels, hinsts⟩ := takeSample_others (c := c) harrives e payload
  subst hx hfs hd hy
  have huc : u.channels = s.channels := by rw [harrives]
  rw [takeSample_run e (by rw [huc]; exact hrun) (by omega)] at hexec hchannels hinsts
  generalize hv : (u.modChannel c fun ch => { ch with idleExpiry := some (u.clock.counter + 2000) }) = v at hexec hchannels hinsts
  have hvc : v.channels[c] = { s.channels[c] with idleExpiry := some (s.clock.counter + 2000) } := by
    rw [← hv, modChannel_same, huc, harrives]
  have hvi : v.insts = s.insts := by rw [← hv, State.modChannel_insts, harrives]
  have hvcounts : v.counts = s.counts := by rw [← hv, State.modChannel_counts, harrives]
  have hvband (i : Fin 96) (hi : instChannel i = c) : v.bandOf i = s.bandOf i := State.bandOf_of_config hi (by rw [hvc])
  have htaken : Taken c payload v := by
    refine ⟨?_, ?_, ?_, ?_⟩
    · rw [hvc]; exact (inRun_iff _).mpr hrun
    · rw [hvc]; exact wellSized_of hlen hsize
    · rw [hvc]; exact hd128
    · rw [hvc]; exact htol
  have hdecv : Decimates c payload ys group v := by
    rw [Decimates, hvc]
    exact hdec.symm
  have hringv : v.channels[c].ring.length ≤ 2048 := by rw [hvc]; exact hring
  refine ⟨_, hexec, ?_, hchannels, hinsts, fun hst hroom => ?_, fun hst hroom => ?_, fun hst hopen hlast => ?_,
    fun hst hopen hlast hbound hmark hgen => ?_⟩
  · rw [arbitrate_counts, checkFrame_counts e htaken, hvcounts, hvc]
    rfl
  · obtain ⟨hc, hi⟩ := frame_settling (n := e) htaken hdecv hringv (by rw [hvc]; exact hst) (by rw [hvc]; exact hroom)
    rw [arbitrate_channels, arbitrate_insts, hc, hvc]
    refine ⟨rfl, fun i b hic hb => ?_⟩
    rw [hi i b hic ((hvband i hic).trans hb), hvi]
  · obtain ⟨hc, hi⟩ := frame_running (n := e) htaken hdecv hringv (by rw [hvc]; exact hst) (by rw [hvc]; exact hroom)
    rw [arbitrate_channels, arbitrate_insts, hc, hvc]
    refine ⟨rfl, fun i b hic hb => ?_⟩
    rw [hi i b hic ((hvband i hic).trans hb), hvi]
  · obtain ⟨hc, hi⟩ := frame_settled (n := e) htaken hdecv hringv (by rw [hvc]; exact hst) (by rw [hvc]; exact hopen)
      (by rw [hvc]; exact hlast)
    rw [arbitrate_channels, arbitrate_insts, hc, hvc]
    refine ⟨rfl, fun i b hic hb => ?_⟩
    have hwindow := hi i b hic ((hvband i hic).trans hb)
    rw [hvc] at hwindow
    exact hwindow
  · have htables : v.tables = s.tables := by rw [← hv, State.modChannel_tables, harrives]
    obtain ⟨hc, hi⟩ := frame_closed (n := e) htaken hdecv hringv (by rw [hvc]; exact hst) (by rw [hvc]; exact hopen)
      (by rw [hvc]; exact hlast) ((State.channelBound_congr htables (by rw [hvc])).trans hbound) (by rw [hvc]; exact hmark)
      (by rw [hvc, ← hv, State.modChannel_generation, harrives]; exact hgen)
    rw [arbitrate_channels, arbitrate_insts, hc, hvc]
    refine ⟨rfl, fun i b w z k hic hb hw hz hk => ?_⟩
    subst hic hz hk
    obtain ⟨hsum, hnext, r, set, hresult, hjudges, hgapped, hnormal, hrelaxed, hstep, hstand⟩ :=
      hi i b w rfl ((hvband i rfl).trans hb) (by rw [hvi]; exact hw)
    rw [hvc] at hnext hjudges hgapped hrelaxed
    rw [hvi] at hjudges hstep hstand
    refine ⟨hsum, hnext, r, set, hresult, ?_, hgapped, hnormal, fun hbefore hb => ?_, hstep, hstand⟩
    · exact hjudges.congr (by rw [← hv, State.modChannel_clock, harrives])
        (by rw [← hv, State.modChannel_turbines, harrives]) htables (by rw [← hv, State.modChannel_points, harrives])
    · have hice : v.ice = s.ice := by rw [← hv, State.modChannel_ice, harrives]
      rw [← hice]
      exact hrelaxed (fun j b' hj hlt hbj => hbefore j b' hj hlt ((hvband j hj).symm.trans hbj)) hb

end Sys2Proof.Machine
end

section
/-! PROOFS. The SAMPLE frame that starts a run (R36), at an IDLE channel and after missing samples beyond the gap tolerance
(R30). -/

namespace Sys2Proof.Machine

section
variable {s t u : State} {c : Fin 24} {e : Fin 64} {payload : List Byte} {ys g : List (Int × Bool)}

/-- The first frame of a run, where the settle count outlasts it. -/
theorem takeFrame_first (hst : s.channels[c].state = .settling) (hgroup : s.channels[c].group = [])
    (hdec : decimated s.channels[c].config.entry.decimation [] (ownSamples payload) = (ys, g))
    (hzero : s.channels[c].settleProgress = 0) (hroom : ys.length < s.channels[c].config.entry.settle) :
    Gathered c ys g (some (BitVec.ofNat 8 (at8 payload 0 + 1))) (samplesOf (payload.drop 2)).getLast? s
      (takeFrame c e payload s) := by
  have hrun : s.channels[c].state.inRun = true := (inRun_iff _).mpr (.inl hst)
  have hnote := noteFrame_notes c e payload s hrun
  rw [hgroup] at hnote
  obtain ⟨hp, hl⟩ := hnote.progress hrun
  obtain ⟨hp', hl'⟩ := progress_settling hst
  obtain ⟨hgroup', hexpect, hinput⟩ := hnote.notes
  have hpush := pushInputs_within (ys := ys) (g := g) (ownSamples payload) (hnote.inRun hrun)
    (by rw [hgroup', hnote.keeps.2.1]; exact hdec) (.inr (by rw [hp, hl, hp', hl', hzero, List.length_nil]; omega))
  rw [hexpect, hinput] at hpush
  rw [takeFrame_of_run e payload hrun]
  exact hnote.trans hpush

theorem startRun_of_room (h : 0 < s.channels[c].config.entry.settle) : startRun c s = s.modChannel c fun x => { x with
    state := .settling, settleProgress := 0, windowProgress := 0, group := [], streamIdle := false
    idleExpiry := some (s.clock.counter + 2000) } := by
  rw [startRun, settleCheck, if_neg]
  · rfl
  · rw [modChannel_same]
    exact Nat.not_le.mpr h

theorem takeSample_idle (h : s.channels[c].state = .idle)
    (hsize : wellSized payload s.channels[c].config.entry.frameSamples = true) :
    takeSample c e payload s = takeFrame c e payload (startRun c s) := by
  simp only [takeSample, h, hsize, if_true]

/-- A discard whose settle count is not yet reached: the run ends and the next one settles. -/
theorem leaveRun_discard_of_room (hbound : s.channelBound c = true) (hgen : s.channels[c].gen = s.generation)
    (hmark : s.channels[c].marked = false) (h : 0 < s.channels[c].config.entry.settle) :
    (leaveRun c .discard s).channels[c] = { s.channels[c].runEnded with state := .settling } ∧
      (leaveRun c .discard s).counts = s.counts ∧
      ∀ i, instChannel i = c → (leaveRun c .discard s).insts[i] = s.insts[i].clearRun := by
  have hleave : leaveRun c .discard s = suspendCheck ((endRun c s).modChannel c fun x => { x with state := .settling }) := by
    rw [leaveRun_discard hbound hgen hmark, settleCheck, if_neg]
    rw [modChannel_same, endRun_channel_same]
    exact Nat.not_le.mpr h
  obtain ⟨hchannels, hinsts⟩ := runEnded_changed c (fun x => { x with state := .settling }) s
  rw [← hleave] at hchannels hinsts
  refine ⟨?_, (leaveRun_moves c .discard (Footprint.runs_of c) .refl).counts_stand id, fun i hi => ?_⟩
  · rw [hchannels, upd_same]
    rfl
  · rw [hinsts, if_pos hi]

theorem checkFrame_discards {x : Byte} (hx : s.channels[c].expect = some x)
    (hsize : wellSized payload s.channels[c].config.entry.frameSamples = true)
    (hpos : 1 ≤ (at8 payload 0 + 256 - x.toNat) % 256) (hahead : (at8 payload 0 + 256 - x.toNat) % 256 < 128)
    (hbeyond : s.channels[c].config.entry.gapTolerance <
      (at8 payload 0 + 256 - x.toNat) % 256 * s.channels[c].config.entry.frameSamples)
    (hrun : (leaveRun c .discard (countGap e s)).channels[c].state = .settling) :
    checkFrame c e payload s = takeFrame c e payload (leaveRun c .discard (countGap e s)) := by
  rw [← sequence_ahead] at hpos hahead hbeyond
  have hgap : gapRule c ((BitVec.ofNat 8 (at8 payload 0) - x).toNat * s.channels[c].config.entry.frameSamples) (countGap e s) =
      leaveRun c .discard (countGap e s) := if_neg (Nat.not_le.mpr hbeyond)
  rw [checkFrame_sized hx (by omega) hsize, if_neg (by omega), hgap, State.discardedAway, hrun, if_neg]
  simp only [ChannelState.inRun, Bool.not_true, Bool.and_false, Bool.false_eq_true, not_false_eq_true]

/-- A frame behind missing samples beyond the tolerance, at a channel that is bound, unmarked and not pending. -/
theorem frame_discards {x : Byte} (hx : s.channels[c].expect = some x)
    (hsize : wellSized payload s.channels[c].config.entry.frameSamples = true)
    (hpos : 1 ≤ (at8 payload 0 + 256 - x.toNat) % 256) (hahead : (at8 payload 0 + 256 - x.toNat) % 256 < 128)
    (hbeyond : s.channels[c].config.entry.gapTolerance <
      (at8 payload 0 + 256 - x.toNat) % 256 * s.channels[c].config.entry.frameSamples)
    (hbound : s.channelBound c = true) (hgen : s.channels[c].gen = s.generation) (hmark : s.channels[c].marked = false)
    (hdec : decimated s.channels[c].config.entry.decimation [] (ownSamples payload) = (ys, g))
    (hroom : ys.length < s.channels[c].config.entry.settle) :
    (checkFrame c e payload s).counts = upd s.counts e (fun k =>
      { framesTaken := min 65535 (k.framesTaken + 1), gapEvents := min 65535 (k.gapEvents + 1) }) ∧
    (checkFrame c e payload s).channels[c] = { s.channels[c] with
      state := .settling, expect := some (BitVec.ofNat 8 (at8 payload 0 + 1))
      lastInput := (samplesOf (payload.drop 2)).getLast?, group := g, ring := newestRing (ys.map Prod.fst)
      settleProgress := ys.length, windowProgress := 0, gapped := false } ∧
    ∀ i, instChannel i = c →
      (checkFrame c e payload s).insts[i].window = none ∧ (checkFrame c e payload s).insts[i].sumSq = 0 := by
  obtain ⟨hchannel, hcounts, hinsts⟩ := leaveRun_discard_of_room (s := countGap e s) hbound hgen hmark
    (Nat.zero_lt_of_lt hroom)
  have hstart : (countGap e s).channels[c] = s.channels[c] := rfl
  rw [hstart] at hchannel
  rw [checkFrame_discards hx hsize hpos hahead hbeyond (by rw [hchannel])]
  generalize leaveRun c .discard (countGap e s) = q at hchannel hcounts hinsts
  have hst : q.channels[c].state = .settling := by rw [hchannel]
  have hfirst := takeFrame_first (e := e) (payload := payload) (ys := ys) (g := g) hst
    (by rw [hchannel]; rfl) (by rw [hchannel]; exact hdec) (by rw [hchannel]; rfl)
    (by rw [hchannel]; exact hroom)
  refine ⟨?_, ?_, fun i hi => ?_⟩
  · rw [takeFrame_counts, hcounts, countGap, State.modCounts_counts, upd_upd]
    rfl
  · rw [hfirst.channel, foldl_passed_settling hst (by rw [hchannel]; exact Nat.zero_le _), hchannel]
    simp only [Channel.noted, Channel.runEnded, Nat.zero_add, List.nil_append]
  · obtain ⟨hwindow, -, hsum⟩ := foldl_inst_eq q.channels[c].state (q.bandOf i) ys q.insts[i]
    rw [hfirst.insts i hi, hwindow, hsum (by rw [hst]; exact fun h => by cases h), hinsts i hi]
    exact ⟨rfl, rfl⟩

/-- A frame at an IDLE channel. -/
theorem frame_starts (hidle : s.channels[c].state = .idle)
    (hsize : wellSized payload s.channels[c].config.entry.frameSamples = true) (hring : s.channels[c].ring.length ≤ 2048)
    (hdec : decimated s.channels[c].config.entry.decimation [] (ownSamples payload) = (ys, g))
    (hroom : ys.length < s.channels[c].config.entry.settle) :
    (takeSample c e payload s).counts = upd s.counts e (fun k => { k with framesTaken := min 65535 (k.framesTaken + 1) }) ∧
    (takeSample c e payload s).channels[c] = { s.channels[c] with
      state := .settling, idleExpiry := some (s.clock.counter + 2000)
      expect := some (BitVec.ofNat 8 (at8 payload 0 + 1)), lastInput := (samplesOf (payload.drop 2)).getLast?, group := g
      ring := newestRing (s.channels[c].ring ++ ys.map Prod.fst), settleProgress := ys.length, windowProgress := 0
      streamIdle := false } := by
  rw [takeSample_idle hidle hsize, startRun_of_room (Nat.zero_lt_of_lt hroom), takeFrame_counts, State.modChannel_counts]
  refine ⟨rfl, ?_⟩
  generalize hv : (s.modChannel c fun x => { x with
    state := .settling, settleProgress := 0, windowProgress := 0, group := [], streamIdle := false
    idleExpiry := some (s.clock.counter + 2000) }) = v
  have hchannel : v.channels[c] = { s.channels[c] with
      state := .settling, settleProgress := 0, windowProgress := 0, group := [], streamIdle := false
      idleExpiry := some (s.clock.counter + 2000) } := by rw [← hv, modChannel_same]
  have hst : v.channels[c].state = .settling := by rw [hchannel]
  have hfirst := takeFrame_first (e := e) (payload := payload) (ys := ys) (g := g) hst
    (by rw [hchannel]) (by rw [hchannel]; exact hdec) (by rw [hchannel])
    (by rw [hchannel]; exact hroom)
  rw [hfirst.channel, foldl_passed_settling hst (by rw [hchannel]; exact hring), hchannel]
  simp only [Channel.noted, Nat.zero_add]

end

/-- Settles O13: the run starts with an empty group and no progress, and the frame passes as its first. -/
theorem sampleFrameStartsRun : Obligations.SampleFrameStartsRun := by
  intro bytes payload e c fs x y ys group s hhands hx hfs hlen hsize hring hdec hroom hy
  obtain ⟨u, harrives, hexec⟩ := sampleFrame_exec hhands
  obtain ⟨hchannels, hinsts⟩ := takeSample_others (c := c) harrives e payload
  subst hx hfs hy
  have huc : u.channels = s.channels := by rw [harrives]
  refine ⟨_, hexec, hchannels, hinsts, fun hidle => ?_, fun n d hrun hexpect hd hpos hahead hbeyond hbound hmark hgen => ?_⟩
  · obtain ⟨hcounts, hchannel⟩ := frame_starts (s := u) (e := e) (ys := ys) (g := group) (by rw [huc]; exact hidle)
      (by rw [huc]; exact wellSized_of hlen hsize) (by rw [huc]; exact hring) (by rw [huc]; exact hdec.symm)
      (by rw [huc]; exact hroom)
    rw [arbitrate_counts, arbitrate_channels, hcounts, hchannel, harrives]
    exact ⟨rfl, rfl⟩
  · subst hd
    rw [takeSample_run e (by rw [huc]; exact hrun) (by omega), arbitrate_counts, arbitrate_channels, arbitrate_insts]
    generalize hv : (u.modChannel c fun ch => { ch with idleExpiry := some (u.clock.counter + 2000) }) = v
    have hvc : v.channels[c] = { s.channels[c] with idleExpiry := some (s.clock.counter + 2000) } := by
      rw [← hv, modChannel_same, huc, harrives]
    have hvcounts : v.counts = s.counts := by rw [← hv, State.modChannel_counts, harrives]
    have htables : v.tables = s.tables := by rw [← hv, State.modChannel_tables, harrives]
    have hgeneration : v.generation = s.generation := by rw [← hv, State.modChannel_generation, harrives]
    obtain ⟨hcounts, hchannel, hinst⟩ := frame_discards (s := v) (e := e) (x := n) (ys := ys) (g := group)
      (by rw [hvc]; exact hexpect) (by rw [hvc]; exact wellSized_of hlen hsize) hpos hahead (by rw [hvc]; exact hbeyond)
      ((State.channelBound_congr htables (by rw [hvc])).trans hbound) (by rw [hvc, hgeneration]; exact hgen)
      (by rw [hvc]; exact hmark) (by rw [hvc]; exact hdec.symm) (by rw [hvc]; exact hroom)
    rw [hcounts, hchannel, hvcounts, hvc]
    exact ⟨rfl, rfl, hinst⟩

end Sys2Proof.Machine
end
